-- ==== Sys2Proof/Word.lean ====
section
/-! DEFINITION. The two widths of the Intel 8080: bytes (registers, memory, ports, operand bytes) and 16-bit words (pc, sp,
pairs, addresses). Bit 0 is the least significant bit (spec 00_scope.md R6); all values are unsigned and wrap (R7), which is
what BitVec arithmetic does. -/

namespace Sys2Proof

/-- An 8-bit value: a register, a memory byte, a port number or port byte (00_scope.md R5). -/
abbrev Byte := BitVec 8

/-- A 16-bit value: pc, sp, a register pair, an address (00_scope.md R5). -/
abbrev Word := BitVec 16

end Sys2Proof
end

