-- ==== Sys2Proof/Config.lean ====
section
/-! DEFINITION. The implementation parameters of spec 00_scope.md R5 as plain data (Params, fixed for a session; Launch, what
the host gives to a reset), and the one free value of the model, the byte a port answers (45_io_control.md R247). -/

namespace Sys2Proof

/-- `UNDEF_POLICY`, what the twelve undefined opcodes do (45_io_control.md R246). The spec's default is `fault`. -/
inductive UndefPolicy where
  /-- `fault`: the DecodeFault is raised (60_exceptions.md R261). -/
  | fault
  /-- `nop`: each is a 1-byte NOP. -/
  | nop
  /-- the spec's value `alias`: each runs the instruction that the Intel 8080 silicon runs for it. -/
  | aliased
deriving DecidableEq, Repr

/-- `ANA_AC_MODE`, the auxiliary carry after ANA and ANI (42_logical.md R170). The spec's default is `clear`. -/
inductive AnaAcMode where
  /-- `clear`: AC becomes 0. -/
  | clear
  /-- `or_bit3`: AC becomes bit 3 of the OR of the two operands. -/
  | orBit3
deriving DecidableEq, Repr

/-- The parameters that the host chooses for a whole session (00_scope.md R5; 70_reset_and_hazards.md R294 item 1). -/
structure Params where
  /-- `INT_VECTOR`: the fixed vector address of the interrupt (60_exceptions.md R264); any 16-bit value. -/
  intVector : Word
  undefPolicy : UndefPolicy
  anaAcMode : AnaAcMode
deriving DecidableEq, Repr

/-- What the host gives to a reset (70_reset_and_hazards.md R290): `ENTRY`, `SP_INIT`, `IMAGE_BASE`, the program image,
`INIT_MEM`, and the session's parameters. -/
structure Launch where
  entry : Word
  spInit : Word
  imageBase : Word
  /-- The flat byte stream loaded verbatim at `imageBase` (R291). -/
  image : List Byte
  /-- `INIT_MEM`: every byte the image does not cover, as a list of (address, byte); an address it does not list is 0x00,
  an address listed twice has its first byte, and a number that is no address (65536 or more) says nothing. Every contents
  of the 65,536 bytes can be written so. -/
  initMem : List Host.Cell
  params : Params
  /-- The bytes that the host will answer to the first `portIn` calls of the session (45_io_control.md R247); the answers
  after these are the free value `Config.portIn`. -/
  answers : List Byte
deriving DecidableEq, Repr

/-- FREE VALUE: the byte the host's `portIn` returns for this port when the session's list of answers has run out; the
second argument is how many port calls the core made before this one since reset, so that no two reads of one session are tied
together. The spec: "any 8-bit value, under no law" (45_io_control.md R247, decision D13). DESIGN CHOICE, unsafe: reads of two
sessions (two runs, or before and after a reset) at the same port and the same count are the same byte. Assumption logs 9, 20. -/
opaque Config.portIn (port : Byte) (callsBefore : Nat) : Byte

end Sys2Proof
end

