-- ==== Sys2Proof/Syntax.lean ====
section
/-! DEFINITION. The instructions: one constructor for every row of spec/opcode_table.json, which has one row per opcode byte
(30_encoding.md R72, R81). A constructor's arguments are the operand bytes of its format (R70): nothing (F1), an 8-bit
immediate or port number (F2), a 16-bit immediate or address (F3). Registers, pairs, conditions and restart numbers are part of
the opcode byte and so of the constructor's name. The twelve undefined opcodes are constructors too; the four whose silicon
alias has an address operand carry the two bytes that the alias reads (assumption log 12). -/

namespace Sys2Proof

inductive Instr where
  -- Data transfer (40_data_transfer.md)
  /-- 0x40 MOV B,B (R101) -/
  | movBB
  /-- 0x41 MOV B,C (R101) -/
  | movBC
  /-- 0x42 MOV B,D (R101) -/
  | movBD
  /-- 0x43 MOV B,E (R101) -/
  | movBE
  /-- 0x44 MOV B,H (R101) -/
  | movBH
  /-- 0x45 MOV B,L (R101) -/
  | movBL
  /-- 0x47 MOV B,A (R101) -/
  | movBA
  /-- 0x48 MOV C,B (R101) -/
  | movCB
  /-- 0x49 MOV C,C (R101) -/
  | movCC
  /-- 0x4A MOV C,D (R101) -/
  | movCD
  /-- 0x4B MOV C,E (R101) -/
  | movCE
  /-- 0x4C MOV C,H (R101) -/
  | movCH
  /-- 0x4D MOV C,L (R101) -/
  | movCL
  /-- 0x4F MOV C,A (R101) -/
  | movCA
  /-- 0x50 MOV D,B (R101) -/
  | movDB
  /-- 0x51 MOV D,C (R101) -/
  | movDC
  /-- 0x52 MOV D,D (R101) -/
  | movDD
  /-- 0x53 MOV D,E (R101) -/
  | movDE
  /-- 0x54 MOV D,H (R101) -/
  | movDH
  /-- 0x55 MOV D,L (R101) -/
  | movDL
  /-- 0x57 MOV D,A (R101) -/
  | movDA
  /-- 0x58 MOV E,B (R101) -/
  | movEB
  /-- 0x59 MOV E,C (R101) -/
  | movEC
  /-- 0x5A MOV E,D (R101) -/
  | movED
  /-- 0x5B MOV E,E (R101) -/
  | movEE
  /-- 0x5C MOV E,H (R101) -/
  | movEH
  /-- 0x5D MOV E,L (R101) -/
  | movEL
  /-- 0x5F MOV E,A (R101) -/
  | movEA
  /-- 0x60 MOV H,B (R101) -/
  | movHB
  /-- 0x61 MOV H,C (R101) -/
  | movHC
  /-- 0x62 MOV H,D (R101) -/
  | movHD
  /-- 0x63 MOV H,E (R101) -/
  | movHE
  /-- 0x64 MOV H,H (R101) -/
  | movHH
  /-- 0x65 MOV H,L (R101) -/
  | movHL
  /-- 0x67 MOV H,A (R101) -/
  | movHA
  /-- 0x68 MOV L,B (R101) -/
  | movLB
  /-- 0x69 MOV L,C (R101) -/
  | movLC
  /-- 0x6A MOV L,D (R101) -/
  | movLD
  /-- 0x6B MOV L,E (R101) -/
  | movLE
  /-- 0x6C MOV L,H (R101) -/
  | movLH
  /-- 0x6D MOV L,L (R101) -/
  | movLL
  /-- 0x6F MOV L,A (R101) -/
  | movLA
  /-- 0x78 MOV A,B (R101) -/
  | movAB
  /-- 0x79 MOV A,C (R101) -/
  | movAC
  /-- 0x7A MOV A,D (R101) -/
  | movAD
  /-- 0x7B MOV A,E (R101) -/
  | movAE
  /-- 0x7C MOV A,H (R101) -/
  | movAH
  /-- 0x7D MOV A,L (R101) -/
  | movAL
  /-- 0x7F MOV A,A (R101) -/
  | movAA
  /-- 0x46 MOV B,M (R102) -/
  | movBM
  /-- 0x4E MOV C,M (R102) -/
  | movCM
  /-- 0x56 MOV D,M (R102) -/
  | movDM
  /-- 0x5E MOV E,M (R102) -/
  | movEM
  /-- 0x66 MOV H,M (R102) -/
  | movHM
  /-- 0x6E MOV L,M (R102) -/
  | movLM
  /-- 0x7E MOV A,M (R102) -/
  | movAM
  /-- 0x70 MOV M,B (R103) -/
  | movMB
  /-- 0x71 MOV M,C (R103) -/
  | movMC
  /-- 0x72 MOV M,D (R103) -/
  | movMD
  /-- 0x73 MOV M,E (R103) -/
  | movME
  /-- 0x74 MOV M,H (R103) -/
  | movMH
  /-- 0x75 MOV M,L (R103) -/
  | movML
  /-- 0x77 MOV M,A (R103) -/
  | movMA
  /-- 0x06 MVI B,d8 (R104) -/
  | mviB (d8 : Byte)
  /-- 0x0E MVI C,d8 (R104) -/
  | mviC (d8 : Byte)
  /-- 0x16 MVI D,d8 (R104) -/
  | mviD (d8 : Byte)
  /-- 0x1E MVI E,d8 (R104) -/
  | mviE (d8 : Byte)
  /-- 0x26 MVI H,d8 (R104) -/
  | mviH (d8 : Byte)
  /-- 0x2E MVI L,d8 (R104) -/
  | mviL (d8 : Byte)
  /-- 0x3E MVI A,d8 (R104) -/
  | mviA (d8 : Byte)
  /-- 0x36 MVI M,d8 (R105) -/
  | mviM (d8 : Byte)
  /-- 0x01 LXI B,d16 (R106) -/
  | lxiB (d16 : Word)
  /-- 0x11 LXI D,d16 (R106) -/
  | lxiD (d16 : Word)
  /-- 0x21 LXI H,d16 (R106) -/
  | lxiH (d16 : Word)
  /-- 0x31 LXI SP,d16 (R106) -/
  | lxiSP (d16 : Word)
  /-- 0x3A LDA a16 (R107) -/
  | lda (a16 : Word)
  /-- 0x32 STA a16 (R108) -/
  | sta (a16 : Word)
  /-- 0x2A LHLD a16 (R109) -/
  | lhld (a16 : Word)
  /-- 0x22 SHLD a16 (R110) -/
  | shld (a16 : Word)
  /-- 0x0A LDAX B (R111) -/
  | ldaxB
  /-- 0x1A LDAX D (R111) -/
  | ldaxD
  /-- 0x02 STAX B (R112) -/
  | staxB
  /-- 0x12 STAX D (R112) -/
  | staxD
  /-- 0xEB XCHG (R113) -/
  | xchg
  -- Arithmetic (41_arithmetic.md)
  /-- 0x80 ADD B (R133) -/
  | addB
  /-- 0x81 ADD C (R133) -/
  | addC
  /-- 0x82 ADD D (R133) -/
  | addD
  /-- 0x83 ADD E (R133) -/
  | addE
  /-- 0x84 ADD H (R133) -/
  | addH
  /-- 0x85 ADD L (R133) -/
  | addL
  /-- 0x87 ADD A (R133) -/
  | addA
  /-- 0x86 ADD M (R134) -/
  | addM
  /-- 0xC6 ADI d8 (R135) -/
  | adi (d8 : Byte)
  /-- 0x88 ADC B (R136) -/
  | adcB
  /-- 0x89 ADC C (R136) -/
  | adcC
  /-- 0x8A ADC D (R136) -/
  | adcD
  /-- 0x8B ADC E (R136) -/
  | adcE
  /-- 0x8C ADC H (R136) -/
  | adcH
  /-- 0x8D ADC L (R136) -/
  | adcL
  /-- 0x8F ADC A (R136) -/
  | adcA
  /-- 0x8E ADC M (R137) -/
  | adcM
  /-- 0xCE ACI d8 (R138) -/
  | aci (d8 : Byte)
  /-- 0x90 SUB B (R139) -/
  | subB
  /-- 0x91 SUB C (R139) -/
  | subC
  /-- 0x92 SUB D (R139) -/
  | subD
  /-- 0x93 SUB E (R139) -/
  | subE
  /-- 0x94 SUB H (R139) -/
  | subH
  /-- 0x95 SUB L (R139) -/
  | subL
  /-- 0x97 SUB A (R139) -/
  | subA
  /-- 0x96 SUB M (R140) -/
  | subM
  /-- 0xD6 SUI d8 (R141) -/
  | sui (d8 : Byte)
  /-- 0x98 SBB B (R142) -/
  | sbbB
  /-- 0x99 SBB C (R142) -/
  | sbbC
  /-- 0x9A SBB D (R142) -/
  | sbbD
  /-- 0x9B SBB E (R142) -/
  | sbbE
  /-- 0x9C SBB H (R142) -/
  | sbbH
  /-- 0x9D SBB L (R142) -/
  | sbbL
  /-- 0x9F SBB A (R142) -/
  | sbbA
  /-- 0x9E SBB M (R143) -/
  | sbbM
  /-- 0xDE SBI d8 (R144) -/
  | sbi (d8 : Byte)
  /-- 0x04 INR B (R145) -/
  | inrB
  /-- 0x0C INR C (R145) -/
  | inrC
  /-- 0x14 INR D (R145) -/
  | inrD
  /-- 0x1C INR E (R145) -/
  | inrE
  /-- 0x24 INR H (R145) -/
  | inrH
  /-- 0x2C INR L (R145) -/
  | inrL
  /-- 0x3C INR A (R145) -/
  | inrA
  /-- 0x34 INR M (R146) -/
  | inrM
  /-- 0x05 DCR B (R147) -/
  | dcrB
  /-- 0x0D DCR C (R147) -/
  | dcrC
  /-- 0x15 DCR D (R147) -/
  | dcrD
  /-- 0x1D DCR E (R147) -/
  | dcrE
  /-- 0x25 DCR H (R147) -/
  | dcrH
  /-- 0x2D DCR L (R147) -/
  | dcrL
  /-- 0x3D DCR A (R147) -/
  | dcrA
  /-- 0x35 DCR M (R148) -/
  | dcrM
  /-- 0x03 INX B (R149) -/
  | inxB
  /-- 0x13 INX D (R149) -/
  | inxD
  /-- 0x23 INX H (R149) -/
  | inxH
  /-- 0x33 INX SP (R149) -/
  | inxSP
  /-- 0x0B DCX B (R150) -/
  | dcxB
  /-- 0x1B DCX D (R150) -/
  | dcxD
  /-- 0x2B DCX H (R150) -/
  | dcxH
  /-- 0x3B DCX SP (R150) -/
  | dcxSP
  /-- 0x09 DAD B (R151) -/
  | dadB
  /-- 0x19 DAD D (R151) -/
  | dadD
  /-- 0x29 DAD H (R151) -/
  | dadH
  /-- 0x39 DAD SP (R151) -/
  | dadSP
  /-- 0x27 DAA (R152) -/
  | daa
  -- Logical, compare, rotate and carry (42_logical.md)
  /-- 0xA0 ANA B (R171) -/
  | anaB
  /-- 0xA1 ANA C (R171) -/
  | anaC
  /-- 0xA2 ANA D (R171) -/
  | anaD
  /-- 0xA3 ANA E (R171) -/
  | anaE
  /-- 0xA4 ANA H (R171) -/
  | anaH
  /-- 0xA5 ANA L (R171) -/
  | anaL
  /-- 0xA7 ANA A (R171) -/
  | anaA
  /-- 0xA6 ANA M (R172) -/
  | anaM
  /-- 0xE6 ANI d8 (R173) -/
  | ani (d8 : Byte)
  /-- 0xA8 XRA B (R174) -/
  | xraB
  /-- 0xA9 XRA C (R174) -/
  | xraC
  /-- 0xAA XRA D (R174) -/
  | xraD
  /-- 0xAB XRA E (R174) -/
  | xraE
  /-- 0xAC XRA H (R174) -/
  | xraH
  /-- 0xAD XRA L (R174) -/
  | xraL
  /-- 0xAF XRA A (R174) -/
  | xraA
  /-- 0xAE XRA M (R175) -/
  | xraM
  /-- 0xEE XRI d8 (R176) -/
  | xri (d8 : Byte)
  /-- 0xB0 ORA B (R177) -/
  | oraB
  /-- 0xB1 ORA C (R177) -/
  | oraC
  /-- 0xB2 ORA D (R177) -/
  | oraD
  /-- 0xB3 ORA E (R177) -/
  | oraE
  /-- 0xB4 ORA H (R177) -/
  | oraH
  /-- 0xB5 ORA L (R177) -/
  | oraL
  /-- 0xB7 ORA A (R177) -/
  | oraA
  /-- 0xB6 ORA M (R178) -/
  | oraM
  /-- 0xF6 ORI d8 (R179) -/
  | ori (d8 : Byte)
  /-- 0xB8 CMP B (R180) -/
  | cmpB
  /-- 0xB9 CMP C (R180) -/
  | cmpC
  /-- 0xBA CMP D (R180) -/
  | cmpD
  /-- 0xBB CMP E (R180) -/
  | cmpE
  /-- 0xBC CMP H (R180) -/
  | cmpH
  /-- 0xBD CMP L (R180) -/
  | cmpL
  /-- 0xBF CMP A (R180) -/
  | cmpA
  /-- 0xBE CMP M (R181) -/
  | cmpM
  /-- 0xFE CPI d8 (R182) -/
  | cpi (d8 : Byte)
  /-- 0x07 RLC (R183) -/
  | rlc
  /-- 0x0F RRC (R184) -/
  | rrc
  /-- 0x17 RAL (R185) -/
  | ral
  /-- 0x1F RAR (R186) -/
  | rar
  /-- 0x2F CMA (R187) -/
  | cma
  /-- 0x3F CMC (R188) -/
  | cmc
  /-- 0x37 STC (R189) -/
  | stc
  -- I/O and control (45_io_control.md)
  /-- 0xDB IN p8 (R240) -/
  | inPort (p8 : Byte)
  /-- 0xD3 OUT p8 (R241) -/
  | outPort (p8 : Byte)
  /-- 0xFB EI (R242) -/
  | ei
  /-- 0xF3 DI (R243) -/
  | di
  /-- 0x76 HLT (R244) -/
  | hlt
  /-- 0x00 NOP (R245) -/
  | nop
  -- The twelve undefined opcodes (30_encoding.md R82; 45_io_control.md R246)
  /-- 0x08 undefined opcode (R246) -/
  | undef08
  /-- 0x10 undefined opcode (R246) -/
  | undef10
  /-- 0x18 undefined opcode (R246) -/
  | undef18
  /-- 0x20 undefined opcode (R246) -/
  | undef20
  /-- 0x28 undefined opcode (R246) -/
  | undef28
  /-- 0x30 undefined opcode (R246) -/
  | undef30
  /-- 0x38 undefined opcode (R246) -/
  | undef38
  /-- 0xCB undefined opcode (R246) -/
  | undefCB (a16 : Word)
  /-- 0xD9 undefined opcode (R246) -/
  | undefD9
  /-- 0xDD undefined opcode (R246) -/
  | undefDD (a16 : Word)
  /-- 0xED undefined opcode (R246) -/
  | undefED (a16 : Word)
  /-- 0xFD undefined opcode (R246) -/
  | undefFD (a16 : Word)
  -- Branch (43_branch.md)
  /-- 0xC3 JMP a16 (R201) -/
  | jmp (a16 : Word)
  /-- 0xC2 JNZ a16 (R202) -/
  | jnz (a16 : Word)
  /-- 0xCA JZ a16 (R202) -/
  | jz (a16 : Word)
  /-- 0xD2 JNC a16 (R202) -/
  | jnc (a16 : Word)
  /-- 0xDA JC a16 (R202) -/
  | jc (a16 : Word)
  /-- 0xE2 JPO a16 (R202) -/
  | jpo (a16 : Word)
  /-- 0xEA JPE a16 (R202) -/
  | jpe (a16 : Word)
  /-- 0xF2 JP a16 (R202) -/
  | jp (a16 : Word)
  /-- 0xFA JM a16 (R202) -/
  | jm (a16 : Word)
  /-- 0xCD CALL a16 (R203) -/
  | call (a16 : Word)
  /-- 0xC4 CNZ a16 (R204) -/
  | cnz (a16 : Word)
  /-- 0xCC CZ a16 (R204) -/
  | cz (a16 : Word)
  /-- 0xD4 CNC a16 (R204) -/
  | cnc (a16 : Word)
  /-- 0xDC CC a16 (R204) -/
  | cc (a16 : Word)
  /-- 0xE4 CPO a16 (R204) -/
  | cpo (a16 : Word)
  /-- 0xEC CPE a16 (R204) -/
  | cpe (a16 : Word)
  /-- 0xF4 CP a16 (R204) -/
  | cp (a16 : Word)
  /-- 0xFC CM a16 (R204) -/
  | cm (a16 : Word)
  /-- 0xC9 RET (R205) -/
  | ret
  /-- 0xC0 RNZ (R206) -/
  | rnz
  /-- 0xC8 RZ (R206) -/
  | rz
  /-- 0xD0 RNC (R206) -/
  | rnc
  /-- 0xD8 RC (R206) -/
  | rc
  /-- 0xE0 RPO (R206) -/
  | rpo
  /-- 0xE8 RPE (R206) -/
  | rpe
  /-- 0xF0 RP (R206) -/
  | rp
  /-- 0xF8 RM (R206) -/
  | rm
  /-- 0xC7 RST 0 (R207) -/
  | rst0
  /-- 0xCF RST 1 (R207) -/
  | rst1
  /-- 0xD7 RST 2 (R207) -/
  | rst2
  /-- 0xDF RST 3 (R207) -/
  | rst3
  /-- 0xE7 RST 4 (R207) -/
  | rst4
  /-- 0xEF RST 5 (R207) -/
  | rst5
  /-- 0xF7 RST 6 (R207) -/
  | rst6
  /-- 0xFF RST 7 (R207) -/
  | rst7
  /-- 0xE9 PCHL (R208) -/
  | pchl
  -- Stack (44_stack.md)
  /-- 0xC5 PUSH B (R222) -/
  | pushB
  /-- 0xD5 PUSH D (R222) -/
  | pushD
  /-- 0xE5 PUSH H (R222) -/
  | pushH
  /-- 0xF5 PUSH PSW (R223) -/
  | pushPSW
  /-- 0xC1 POP B (R224) -/
  | popB
  /-- 0xD1 POP D (R224) -/
  | popD
  /-- 0xE1 POP H (R224) -/
  | popH
  /-- 0xF1 POP PSW (R225) -/
  | popPSW
  /-- 0xE3 XTHL (R226) -/
  | xthl
  /-- 0xF9 SPHL (R227) -/
  | sphl
deriving DecidableEq, Repr

end Sys2Proof
end

