-- ==== Sys2Proof/WellFormed.lean ====
section
/-! DEFINITION. What is well formed. An instruction: one of the 244 documented instructions, not one of the twelve undefined
opcodes (30_encoding.md R82, R83); "Operand bytes carry no reserved bits: every value of an operand byte is legal" (R83), and a
constructor's operands are exactly the values of its bits, so no other check applies to an instruction. A launch: an image of
at most 65,536 bytes (70_reset_and_hazards.md R291). -/

namespace Sys2Proof

/-- Is this one of the documented instructions (30_encoding.md R83)? -/
def Instr.defined : Instr → Bool
  | .undef08 => false
  | .undef10 => false
  | .undef18 => false
  | .undef20 => false
  | .undef28 => false
  | .undef30 => false
  | .undef38 => false
  | .undefCB _ => false
  | .undefD9 => false
  | .undefDD _ => false
  | .undefED _ => false
  | .undefFD _ => false
  | _ => true

/-- A well-formed instruction. -/
abbrev Instr.WellFormed (i : Instr) : Prop := i.defined = true

/-- A launch that a reset accepts (70_reset_and_hazards.md R291). -/
abbrev Launch.WellFormed (x : Launch) : Prop := x.image.length ≤ 65536

end Sys2Proof
end

