-- ==== Sys2Proof/Decode.lean ====
section
/-! DEFINITION. The decoder, from the opcode map of spec 30_encoding.md R81 (one function for each row of the map, as the map
has sixteen opcodes to a row), and after it the encoder, from the field patterns of R71 with the register codes of R75, the
pair codes of R77, the ALU codes of R79, the conditions of 43_branch.md R200 and the restart numbers of R207: the two are
written from different tables of the spec, so that their agreement checks both. -/

namespace Sys2Proof

/-- `imm16`: the low byte first (30_encoding.md R78). -/
def immWord (lo hi : Byte) : Word := hi ++ lo

/-- Row 0x of the opcode map (30_encoding.md R81); `col` is the column. -/
def decodeRow0 (col : Nat) (imm8 : Byte) (imm16 : Word) : Instr :=
  match col with
  | 0x0 => .nop
  | 0x1 => .lxiB imm16
  | 0x2 => .staxB
  | 0x3 => .inxB
  | 0x4 => .inrB
  | 0x5 => .dcrB
  | 0x6 => .mviB imm8
  | 0x7 => .rlc
  | 0x8 => .undef08
  | 0x9 => .dadB
  | 0xA => .ldaxB
  | 0xB => .dcxB
  | 0xC => .inrC
  | 0xD => .dcrC
  | 0xE => .mviC imm8
  | _ => .rrc

/-- Row 1x of the opcode map (30_encoding.md R81); `col` is the column. -/
def decodeRow1 (col : Nat) (imm8 : Byte) (imm16 : Word) : Instr :=
  match col with
  | 0x0 => .undef10
  | 0x1 => .lxiD imm16
  | 0x2 => .staxD
  | 0x3 => .inxD
  | 0x4 => .inrD
  | 0x5 => .dcrD
  | 0x6 => .mviD imm8
  | 0x7 => .ral
  | 0x8 => .undef18
  | 0x9 => .dadD
  | 0xA => .ldaxD
  | 0xB => .dcxD
  | 0xC => .inrE
  | 0xD => .dcrE
  | 0xE => .mviE imm8
  | _ => .rar

/-- Row 2x of the opcode map (30_encoding.md R81); `col` is the column. -/
def decodeRow2 (col : Nat) (imm8 : Byte) (imm16 : Word) : Instr :=
  match col with
  | 0x0 => .undef20
  | 0x1 => .lxiH imm16
  | 0x2 => .shld imm16
  | 0x3 => .inxH
  | 0x4 => .inrH
  | 0x5 => .dcrH
  | 0x6 => .mviH imm8
  | 0x7 => .daa
  | 0x8 => .undef28
  | 0x9 => .dadH
  | 0xA => .lhld imm16
  | 0xB => .dcxH
  | 0xC => .inrL
  | 0xD => .dcrL
  | 0xE => .mviL imm8
  | _ => .cma

/-- Row 3x of the opcode map (30_encoding.md R81); `col` is the column. -/
def decodeRow3 (col : Nat) (imm8 : Byte) (imm16 : Word) : Instr :=
  match col with
  | 0x0 => .undef30
  | 0x1 => .lxiSP imm16
  | 0x2 => .sta imm16
  | 0x3 => .inxSP
  | 0x4 => .inrM
  | 0x5 => .dcrM
  | 0x6 => .mviM imm8
  | 0x7 => .stc
  | 0x8 => .undef38
  | 0x9 => .dadSP
  | 0xA => .lda imm16
  | 0xB => .dcxSP
  | 0xC => .inrA
  | 0xD => .dcrA
  | 0xE => .mviA imm8
  | _ => .cmc

/-- Row 4x of the opcode map (30_encoding.md R81); `col` is the column. -/
def decodeRow4 (col : Nat) : Instr :=
  match col with
  | 0x0 => .movBB
  | 0x1 => .movBC
  | 0x2 => .movBD
  | 0x3 => .movBE
  | 0x4 => .movBH
  | 0x5 => .movBL
  | 0x6 => .movBM
  | 0x7 => .movBA
  | 0x8 => .movCB
  | 0x9 => .movCC
  | 0xA => .movCD
  | 0xB => .movCE
  | 0xC => .movCH
  | 0xD => .movCL
  | 0xE => .movCM
  | _ => .movCA

/-- Row 5x of the opcode map (30_encoding.md R81); `col` is the column. -/
def decodeRow5 (col : Nat) : Instr :=
  match col with
  | 0x0 => .movDB
  | 0x1 => .movDC
  | 0x2 => .movDD
  | 0x3 => .movDE
  | 0x4 => .movDH
  | 0x5 => .movDL
  | 0x6 => .movDM
  | 0x7 => .movDA
  | 0x8 => .movEB
  | 0x9 => .movEC
  | 0xA => .movED
  | 0xB => .movEE
  | 0xC => .movEH
  | 0xD => .movEL
  | 0xE => .movEM
  | _ => .movEA

/-- Row 6x of the opcode map (30_encoding.md R81); `col` is the column. -/
def decodeRow6 (col : Nat) : Instr :=
  match col with
  | 0x0 => .movHB
  | 0x1 => .movHC
  | 0x2 => .movHD
  | 0x3 => .movHE
  | 0x4 => .movHH
  | 0x5 => .movHL
  | 0x6 => .movHM
  | 0x7 => .movHA
  | 0x8 => .movLB
  | 0x9 => .movLC
  | 0xA => .movLD
  | 0xB => .movLE
  | 0xC => .movLH
  | 0xD => .movLL
  | 0xE => .movLM
  | _ => .movLA

/-- Row 7x of the opcode map (30_encoding.md R81); `col` is the column. -/
def decodeRow7 (col : Nat) : Instr :=
  match col with
  | 0x0 => .movMB
  | 0x1 => .movMC
  | 0x2 => .movMD
  | 0x3 => .movME
  | 0x4 => .movMH
  | 0x5 => .movML
  | 0x6 => .hlt
  | 0x7 => .movMA
  | 0x8 => .movAB
  | 0x9 => .movAC
  | 0xA => .movAD
  | 0xB => .movAE
  | 0xC => .movAH
  | 0xD => .movAL
  | 0xE => .movAM
  | _ => .movAA

/-- Row 8x of the opcode map (30_encoding.md R81); `col` is the column. -/
def decodeRow8 (col : Nat) : Instr :=
  match col with
  | 0x0 => .addB
  | 0x1 => .addC
  | 0x2 => .addD
  | 0x3 => .addE
  | 0x4 => .addH
  | 0x5 => .addL
  | 0x6 => .addM
  | 0x7 => .addA
  | 0x8 => .adcB
  | 0x9 => .adcC
  | 0xA => .adcD
  | 0xB => .adcE
  | 0xC => .adcH
  | 0xD => .adcL
  | 0xE => .adcM
  | _ => .adcA

/-- Row 9x of the opcode map (30_encoding.md R81); `col` is the column. -/
def decodeRow9 (col : Nat) : Instr :=
  match col with
  | 0x0 => .subB
  | 0x1 => .subC
  | 0x2 => .subD
  | 0x3 => .subE
  | 0x4 => .subH
  | 0x5 => .subL
  | 0x6 => .subM
  | 0x7 => .subA
  | 0x8 => .sbbB
  | 0x9 => .sbbC
  | 0xA => .sbbD
  | 0xB => .sbbE
  | 0xC => .sbbH
  | 0xD => .sbbL
  | 0xE => .sbbM
  | _ => .sbbA

/-- Row Ax of the opcode map (30_encoding.md R81); `col` is the column. -/
def decodeRowA (col : Nat) : Instr :=
  match col with
  | 0x0 => .anaB
  | 0x1 => .anaC
  | 0x2 => .anaD
  | 0x3 => .anaE
  | 0x4 => .anaH
  | 0x5 => .anaL
  | 0x6 => .anaM
  | 0x7 => .anaA
  | 0x8 => .xraB
  | 0x9 => .xraC
  | 0xA => .xraD
  | 0xB => .xraE
  | 0xC => .xraH
  | 0xD => .xraL
  | 0xE => .xraM
  | _ => .xraA

/-- Row Bx of the opcode map (30_encoding.md R81); `col` is the column. -/
def decodeRowB (col : Nat) : Instr :=
  match col with
  | 0x0 => .oraB
  | 0x1 => .oraC
  | 0x2 => .oraD
  | 0x3 => .oraE
  | 0x4 => .oraH
  | 0x5 => .oraL
  | 0x6 => .oraM
  | 0x7 => .oraA
  | 0x8 => .cmpB
  | 0x9 => .cmpC
  | 0xA => .cmpD
  | 0xB => .cmpE
  | 0xC => .cmpH
  | 0xD => .cmpL
  | 0xE => .cmpM
  | _ => .cmpA

/-- Row Cx of the opcode map (30_encoding.md R81); `col` is the column. -/
def decodeRowC (col : Nat) (imm8 : Byte) (imm16 : Word) : Instr :=
  match col with
  | 0x0 => .rnz
  | 0x1 => .popB
  | 0x2 => .jnz imm16
  | 0x3 => .jmp imm16
  | 0x4 => .cnz imm16
  | 0x5 => .pushB
  | 0x6 => .adi imm8
  | 0x7 => .rst0
  | 0x8 => .rz
  | 0x9 => .ret
  | 0xA => .jz imm16
  | 0xB => .undefCB imm16
  | 0xC => .cz imm16
  | 0xD => .call imm16
  | 0xE => .aci imm8
  | _ => .rst1

/-- Row Dx of the opcode map (30_encoding.md R81); `col` is the column. -/
def decodeRowD (col : Nat) (imm8 : Byte) (imm16 : Word) : Instr :=
  match col with
  | 0x0 => .rnc
  | 0x1 => .popD
  | 0x2 => .jnc imm16
  | 0x3 => .outPort imm8
  | 0x4 => .cnc imm16
  | 0x5 => .pushD
  | 0x6 => .sui imm8
  | 0x7 => .rst2
  | 0x8 => .rc
  | 0x9 => .undefD9
  | 0xA => .jc imm16
  | 0xB => .inPort imm8
  | 0xC => .cc imm16
  | 0xD => .undefDD imm16
  | 0xE => .sbi imm8
  | _ => .rst3

/-- Row Ex of the opcode map (30_encoding.md R81); `col` is the column. -/
def decodeRowE (col : Nat) (imm8 : Byte) (imm16 : Word) : Instr :=
  match col with
  | 0x0 => .rpo
  | 0x1 => .popH
  | 0x2 => .jpo imm16
  | 0x3 => .xthl
  | 0x4 => .cpo imm16
  | 0x5 => .pushH
  | 0x6 => .ani imm8
  | 0x7 => .rst4
  | 0x8 => .rpe
  | 0x9 => .pchl
  | 0xA => .jpe imm16
  | 0xB => .xchg
  | 0xC => .cpe imm16
  | 0xD => .undefED imm16
  | 0xE => .xri imm8
  | _ => .rst5

/-- Row Fx of the opcode map (30_encoding.md R81); `col` is the column. -/
def decodeRowF (col : Nat) (imm8 : Byte) (imm16 : Word) : Instr :=
  match col with
  | 0x0 => .rp
  | 0x1 => .popPSW
  | 0x2 => .jp imm16
  | 0x3 => .di
  | 0x4 => .cp imm16
  | 0x5 => .pushPSW
  | 0x6 => .ori imm8
  | 0x7 => .rst6
  | 0x8 => .rm
  | 0x9 => .sphl
  | 0xA => .jm imm16
  | 0xB => .ei
  | 0xC => .cm imm16
  | 0xD => .undefFD imm16
  | 0xE => .cpi imm8
  | _ => .rst7

/-- The instruction of an opcode byte and the two bytes after it, of which it uses as many as it has operand bytes. The
choice depends on the opcode byte alone (30_encoding.md R84, R89), and every byte is an opcode of the map (R83). -/
def decodeOp (op b1 b2 : Byte) : Instr :=
  let col := op.toNat % 16
  match op.toNat / 16 with
  | 0x0 => decodeRow0 col b1 (immWord b1 b2)
  | 0x1 => decodeRow1 col b1 (immWord b1 b2)
  | 0x2 => decodeRow2 col b1 (immWord b1 b2)
  | 0x3 => decodeRow3 col b1 (immWord b1 b2)
  | 0x4 => decodeRow4 col
  | 0x5 => decodeRow5 col
  | 0x6 => decodeRow6 col
  | 0x7 => decodeRow7 col
  | 0x8 => decodeRow8 col
  | 0x9 => decodeRow9 col
  | 0xA => decodeRowA col
  | 0xB => decodeRowB col
  | 0xC => decodeRowC col b1 (immWord b1 b2)
  | 0xD => decodeRowD col b1 (immWord b1 b2)
  | 0xE => decodeRowE col b1 (immWord b1 b2)
  | _ => decodeRowF col b1 (immWord b1 b2)

/-- How many bytes an instruction has, by its opcode byte (30_encoding.md R81, "Lengths"; R84). 0xCB, 0xDD, 0xED and 0xFD have
the three bytes of their silicon alias here; under the policies `fault` and `nop` only their first byte counts
(45_io_control.md R246). -/
def opLength (op : Byte) : Nat :=
  -- F2: 00ddd110 (MVI), 11alu110, OUT, IN
  if op &&& 0xC7 = 0x06 ∨ op &&& 0xC7 = 0xC6 ∨ op = 0xD3 ∨ op = 0xDB then 2
  -- F3: 00rp0001 (LXI), SHLD, LHLD, STA, LDA, 11ccc010, JMP, 11ccc100, CALL
  else if op &&& 0xCF = 0x01 ∨ op = 0x22 ∨ op = 0x2A ∨ op = 0x32 ∨ op = 0x3A ∨ op &&& 0xC7 = 0xC2 ∨ op = 0xC3 ∨
      op &&& 0xC7 = 0xC4 ∨ op = 0xCD then 3
  -- and the undefined opcodes whose alias is JMP or CALL
  else if op = 0xCB ∨ op = 0xDD ∨ op = 0xED ∨ op = 0xFD then 3
  else 1

/-- Why a list of bytes is no instruction. -/
inductive DecodeError where
  /-- There is no byte at all. -/
  | noBytes
  /-- The opcode's operand bytes are not all there. -/
  | missingOperand (op : Byte)
deriving DecidableEq, Repr

/-- What the decoder answers. -/
inductive Decoded where
  /-- The first instruction, and the bytes after it. -/
  | ok (i : Instr) (rest : List Byte)
  /-- No instruction, by name. -/
  | rejected (e : DecodeError)
deriving DecidableEq, Repr

/-- The first instruction of a list of bytes and the bytes after it. -/
def decode : List Byte → Decoded
  | [] => .rejected .noBytes
  | op :: rest =>
    if rest.length + 1 < opLength op then .rejected (.missingOperand op)
    else .ok (decodeOp op (rest.getD 0 0x00) (rest.getD 1 0x00)) (rest.drop (opLength op - 1))

/-- Byte `k` of an instruction whose `nbits` bits are `w`, bit 0 the least significant bit of the first byte; the bits above
`nbits` are 0. -/
def tableByte (nbits w k : Nat) : Byte := BitVec.ofNat 8 (w % 2 ^ nbits / 256 ^ k)

/-- The instruction the decoder reads from an opcode-table word. The longest instruction has three bytes. -/
def decodeTableWord (nbits w : Nat) : Option Instr :=
  match decode [tableByte nbits w 0, tableByte nbits w 1, tableByte nbits w 2] with
  | .ok i _ => some i
  | .rejected _ => none

/-! ## The encoder -/

/-- Register code of B (30_encoding.md R75). -/
def codeB : BitVec 3 := 0b000

/-- Register code of C (30_encoding.md R75). -/
def codeC : BitVec 3 := 0b001

/-- Register code of D (30_encoding.md R75). -/
def codeD : BitVec 3 := 0b010

/-- Register code of E (30_encoding.md R75). -/
def codeE : BitVec 3 := 0b011

/-- Register code of H (30_encoding.md R75). -/
def codeH : BitVec 3 := 0b100

/-- Register code of L (30_encoding.md R75). -/
def codeL : BitVec 3 := 0b101

/-- Register code of M (30_encoding.md R75, R76). -/
def codeM : BitVec 3 := 0b110

/-- Register code of A (30_encoding.md R75). -/
def codeA : BitVec 3 := 0b111

/-- Pair code of BC (30_encoding.md R77). -/
def pairBC : BitVec 2 := 0b00

/-- Pair code of DE (30_encoding.md R77). -/
def pairDE : BitVec 2 := 0b01

/-- Pair code of HL (30_encoding.md R77). -/
def pairHL : BitVec 2 := 0b10

/-- Pair code of SP, and of PSW in PUSH and POP (30_encoding.md R77). -/
def pairSP : BitVec 2 := 0b11

/-- Condition code NZ (43_branch.md R200). -/
def condNZ : BitVec 3 := 0b000

/-- Condition code Z (43_branch.md R200). -/
def condZ : BitVec 3 := 0b001

/-- Condition code NC (43_branch.md R200). -/
def condNC : BitVec 3 := 0b010

/-- Condition code C (43_branch.md R200). -/
def condC : BitVec 3 := 0b011

/-- Condition code PO (43_branch.md R200). -/
def condPO : BitVec 3 := 0b100

/-- Condition code PE (43_branch.md R200). -/
def condPE : BitVec 3 := 0b101

/-- Condition code P (43_branch.md R200). -/
def condP : BitVec 3 := 0b110

/-- Condition code M (43_branch.md R200). -/
def condM : BitVec 3 := 0b111

/-- ALU code of ADD and its immediate form (30_encoding.md R79). -/
def aluAdd : BitVec 3 := 0b000

/-- ALU code of ADC and its immediate form (30_encoding.md R79). -/
def aluAdc : BitVec 3 := 0b001

/-- ALU code of SUB and its immediate form (30_encoding.md R79). -/
def aluSub : BitVec 3 := 0b010

/-- ALU code of SBB and its immediate form (30_encoding.md R79). -/
def aluSbb : BitVec 3 := 0b011

/-- ALU code of ANA and its immediate form (30_encoding.md R79). -/
def aluAna : BitVec 3 := 0b100

/-- ALU code of XRA and its immediate form (30_encoding.md R79). -/
def aluXra : BitVec 3 := 0b101

/-- ALU code of ORA and its immediate form (30_encoding.md R79). -/
def aluOra : BitVec 3 := 0b110

/-- ALU code of CMP and its immediate form (30_encoding.md R79). -/
def aluCmp : BitVec 3 := 0b111

/-- The pattern 01dddsss (30_encoding.md R71). -/
def opMov (ddd sss : BitVec 3) : Byte := 0b01#2 ++ ddd ++ sss

/-- The pattern 00ddd110 (30_encoding.md R71). -/
def opMvi (ddd : BitVec 3) : Byte := 0b00#2 ++ ddd ++ 0b110#3

/-- The pattern 00rp0001 (30_encoding.md R71). -/
def opLxi (rp : BitVec 2) : Byte := 0b00#2 ++ rp ++ 0b0001#4

/-- The pattern 00rp1001 (30_encoding.md R71). -/
def opDad (rp : BitVec 2) : Byte := 0b00#2 ++ rp ++ 0b1001#4

/-- The pattern 00rp0011 (30_encoding.md R71). -/
def opInx (rp : BitVec 2) : Byte := 0b00#2 ++ rp ++ 0b0011#4

/-- The pattern 00rp1011 (30_encoding.md R71). -/
def opDcx (rp : BitVec 2) : Byte := 0b00#2 ++ rp ++ 0b1011#4

/-- The pattern 000r1010, r the low bit of the pair code (40_data_transfer.md R111) (30_encoding.md R71). -/
def opLdax (rp : BitVec 2) : Byte := 0b00#2 ++ rp ++ 0b1010#4

/-- The pattern 000r0010, r the low bit of the pair code (40_data_transfer.md R112) (30_encoding.md R71). -/
def opStax (rp : BitVec 2) : Byte := 0b00#2 ++ rp ++ 0b0010#4

/-- The pattern 00ddd100 (30_encoding.md R71). -/
def opInr (ddd : BitVec 3) : Byte := 0b00#2 ++ ddd ++ 0b100#3

/-- The pattern 00ddd101 (30_encoding.md R71). -/
def opDcr (ddd : BitVec 3) : Byte := 0b00#2 ++ ddd ++ 0b101#3

/-- The pattern 10alusss (30_encoding.md R71). -/
def opAlu (alu sss : BitVec 3) : Byte := 0b10#2 ++ alu ++ sss

/-- The pattern 11alu110 (30_encoding.md R71). -/
def opAluImm (alu : BitVec 3) : Byte := 0b11#2 ++ alu ++ 0b110#3

/-- The pattern 11ccc010 (30_encoding.md R71). -/
def opJcc (ccc : BitVec 3) : Byte := 0b11#2 ++ ccc ++ 0b010#3

/-- The pattern 11ccc100 (30_encoding.md R71). -/
def opCcc (ccc : BitVec 3) : Byte := 0b11#2 ++ ccc ++ 0b100#3

/-- The pattern 11ccc000 (30_encoding.md R71). -/
def opRcc (ccc : BitVec 3) : Byte := 0b11#2 ++ ccc ++ 0b000#3

/-- The pattern 11nnn111 (30_encoding.md R71). -/
def opRst (nnn : BitVec 3) : Byte := 0b11#2 ++ nnn ++ 0b111#3

/-- The pattern 11rp0101 (30_encoding.md R71). -/
def opPush (rp : BitVec 2) : Byte := 0b11#2 ++ rp ++ 0b0101#4

/-- The pattern 11rp0001 (30_encoding.md R71). -/
def opPop (rp : BitVec 2) : Byte := 0b11#2 ++ rp ++ 0b0001#4

/-- An F2 instruction's bytes (30_encoding.md R70). -/
def format2 (op d8 : Byte) : List Byte := [op, d8]

/-- An F3 instruction's bytes, the low byte of the operand first (30_encoding.md R70, R78). -/
def format3 (op : Byte) (d16 : Word) : List Byte := [op, d16.extractLsb' 0 8, d16.extractLsb' 8 8]

/-- The bytes of an instruction. Single opcodes are those that the "Encoding" lines of the spec's rules give. -/
def encode : Instr → List Byte
  | .movBB => [opMov codeB codeB]
  | .movBC => [opMov codeB codeC]
  | .movBD => [opMov codeB codeD]
  | .movBE => [opMov codeB codeE]
  | .movBH => [opMov codeB codeH]
  | .movBL => [opMov codeB codeL]
  | .movBA => [opMov codeB codeA]
  | .movCB => [opMov codeC codeB]
  | .movCC => [opMov codeC codeC]
  | .movCD => [opMov codeC codeD]
  | .movCE => [opMov codeC codeE]
  | .movCH => [opMov codeC codeH]
  | .movCL => [opMov codeC codeL]
  | .movCA => [opMov codeC codeA]
  | .movDB => [opMov codeD codeB]
  | .movDC => [opMov codeD codeC]
  | .movDD => [opMov codeD codeD]
  | .movDE => [opMov codeD codeE]
  | .movDH => [opMov codeD codeH]
  | .movDL => [opMov codeD codeL]
  | .movDA => [opMov codeD codeA]
  | .movEB => [opMov codeE codeB]
  | .movEC => [opMov codeE codeC]
  | .movED => [opMov codeE codeD]
  | .movEE => [opMov codeE codeE]
  | .movEH => [opMov codeE codeH]
  | .movEL => [opMov codeE codeL]
  | .movEA => [opMov codeE codeA]
  | .movHB => [opMov codeH codeB]
  | .movHC => [opMov codeH codeC]
  | .movHD => [opMov codeH codeD]
  | .movHE => [opMov codeH codeE]
  | .movHH => [opMov codeH codeH]
  | .movHL => [opMov codeH codeL]
  | .movHA => [opMov codeH codeA]
  | .movLB => [opMov codeL codeB]
  | .movLC => [opMov codeL codeC]
  | .movLD => [opMov codeL codeD]
  | .movLE => [opMov codeL codeE]
  | .movLH => [opMov codeL codeH]
  | .movLL => [opMov codeL codeL]
  | .movLA => [opMov codeL codeA]
  | .movAB => [opMov codeA codeB]
  | .movAC => [opMov codeA codeC]
  | .movAD => [opMov codeA codeD]
  | .movAE => [opMov codeA codeE]
  | .movAH => [opMov codeA codeH]
  | .movAL => [opMov codeA codeL]
  | .movAA => [opMov codeA codeA]
  | .movBM => [opMov codeB codeM]
  | .movCM => [opMov codeC codeM]
  | .movDM => [opMov codeD codeM]
  | .movEM => [opMov codeE codeM]
  | .movHM => [opMov codeH codeM]
  | .movLM => [opMov codeL codeM]
  | .movAM => [opMov codeA codeM]
  | .movMB => [opMov codeM codeB]
  | .movMC => [opMov codeM codeC]
  | .movMD => [opMov codeM codeD]
  | .movME => [opMov codeM codeE]
  | .movMH => [opMov codeM codeH]
  | .movML => [opMov codeM codeL]
  | .movMA => [opMov codeM codeA]
  | .mviB d8 => format2 (opMvi codeB) d8
  | .mviC d8 => format2 (opMvi codeC) d8
  | .mviD d8 => format2 (opMvi codeD) d8
  | .mviE d8 => format2 (opMvi codeE) d8
  | .mviH d8 => format2 (opMvi codeH) d8
  | .mviL d8 => format2 (opMvi codeL) d8
  | .mviA d8 => format2 (opMvi codeA) d8
  | .mviM d8 => format2 (opMvi codeM) d8
  | .lxiB d16 => format3 (opLxi pairBC) d16
  | .lxiD d16 => format3 (opLxi pairDE) d16
  | .lxiH d16 => format3 (opLxi pairHL) d16
  | .lxiSP d16 => format3 (opLxi pairSP) d16
  | .lda a16 => format3 0x3A a16
  | .sta a16 => format3 0x32 a16
  | .lhld a16 => format3 0x2A a16
  | .shld a16 => format3 0x22 a16
  | .ldaxB => [opLdax pairBC]
  | .ldaxD => [opLdax pairDE]
  | .staxB => [opStax pairBC]
  | .staxD => [opStax pairDE]
  | .xchg => [0xEB]
  | .addB => [opAlu aluAdd codeB]
  | .addC => [opAlu aluAdd codeC]
  | .addD => [opAlu aluAdd codeD]
  | .addE => [opAlu aluAdd codeE]
  | .addH => [opAlu aluAdd codeH]
  | .addL => [opAlu aluAdd codeL]
  | .addA => [opAlu aluAdd codeA]
  | .addM => [opAlu aluAdd codeM]
  | .adi d8 => format2 (opAluImm aluAdd) d8
  | .adcB => [opAlu aluAdc codeB]
  | .adcC => [opAlu aluAdc codeC]
  | .adcD => [opAlu aluAdc codeD]
  | .adcE => [opAlu aluAdc codeE]
  | .adcH => [opAlu aluAdc codeH]
  | .adcL => [opAlu aluAdc codeL]
  | .adcA => [opAlu aluAdc codeA]
  | .adcM => [opAlu aluAdc codeM]
  | .aci d8 => format2 (opAluImm aluAdc) d8
  | .subB => [opAlu aluSub codeB]
  | .subC => [opAlu aluSub codeC]
  | .subD => [opAlu aluSub codeD]
  | .subE => [opAlu aluSub codeE]
  | .subH => [opAlu aluSub codeH]
  | .subL => [opAlu aluSub codeL]
  | .subA => [opAlu aluSub codeA]
  | .subM => [opAlu aluSub codeM]
  | .sui d8 => format2 (opAluImm aluSub) d8
  | .sbbB => [opAlu aluSbb codeB]
  | .sbbC => [opAlu aluSbb codeC]
  | .sbbD => [opAlu aluSbb codeD]
  | .sbbE => [opAlu aluSbb codeE]
  | .sbbH => [opAlu aluSbb codeH]
  | .sbbL => [opAlu aluSbb codeL]
  | .sbbA => [opAlu aluSbb codeA]
  | .sbbM => [opAlu aluSbb codeM]
  | .sbi d8 => format2 (opAluImm aluSbb) d8
  | .inrB => [opInr codeB]
  | .inrC => [opInr codeC]
  | .inrD => [opInr codeD]
  | .inrE => [opInr codeE]
  | .inrH => [opInr codeH]
  | .inrL => [opInr codeL]
  | .inrA => [opInr codeA]
  | .inrM => [opInr codeM]
  | .dcrB => [opDcr codeB]
  | .dcrC => [opDcr codeC]
  | .dcrD => [opDcr codeD]
  | .dcrE => [opDcr codeE]
  | .dcrH => [opDcr codeH]
  | .dcrL => [opDcr codeL]
  | .dcrA => [opDcr codeA]
  | .dcrM => [opDcr codeM]
  | .inxB => [opInx pairBC]
  | .inxD => [opInx pairDE]
  | .inxH => [opInx pairHL]
  | .inxSP => [opInx pairSP]
  | .dcxB => [opDcx pairBC]
  | .dcxD => [opDcx pairDE]
  | .dcxH => [opDcx pairHL]
  | .dcxSP => [opDcx pairSP]
  | .dadB => [opDad pairBC]
  | .dadD => [opDad pairDE]
  | .dadH => [opDad pairHL]
  | .dadSP => [opDad pairSP]
  | .daa => [0x27]
  | .anaB => [opAlu aluAna codeB]
  | .anaC => [opAlu aluAna codeC]
  | .anaD => [opAlu aluAna codeD]
  | .anaE => [opAlu aluAna codeE]
  | .anaH => [opAlu aluAna codeH]
  | .anaL => [opAlu aluAna codeL]
  | .anaA => [opAlu aluAna codeA]
  | .anaM => [opAlu aluAna codeM]
  | .ani d8 => format2 (opAluImm aluAna) d8
  | .xraB => [opAlu aluXra codeB]
  | .xraC => [opAlu aluXra codeC]
  | .xraD => [opAlu aluXra codeD]
  | .xraE => [opAlu aluXra codeE]
  | .xraH => [opAlu aluXra codeH]
  | .xraL => [opAlu aluXra codeL]
  | .xraA => [opAlu aluXra codeA]
  | .xraM => [opAlu aluXra codeM]
  | .xri d8 => format2 (opAluImm aluXra) d8
  | .oraB => [opAlu aluOra codeB]
  | .oraC => [opAlu aluOra codeC]
  | .oraD => [opAlu aluOra codeD]
  | .oraE => [opAlu aluOra codeE]
  | .oraH => [opAlu aluOra codeH]
  | .oraL => [opAlu aluOra codeL]
  | .oraA => [opAlu aluOra codeA]
  | .oraM => [opAlu aluOra codeM]
  | .ori d8 => format2 (opAluImm aluOra) d8
  | .cmpB => [opAlu aluCmp codeB]
  | .cmpC => [opAlu aluCmp codeC]
  | .cmpD => [opAlu aluCmp codeD]
  | .cmpE => [opAlu aluCmp codeE]
  | .cmpH => [opAlu aluCmp codeH]
  | .cmpL => [opAlu aluCmp codeL]
  | .cmpA => [opAlu aluCmp codeA]
  | .cmpM => [opAlu aluCmp codeM]
  | .cpi d8 => format2 (opAluImm aluCmp) d8
  | .rlc => [0x07]
  | .rrc => [0x0F]
  | .ral => [0x17]
  | .rar => [0x1F]
  | .cma => [0x2F]
  | .cmc => [0x3F]
  | .stc => [0x37]
  | .jmp a16 => format3 0xC3 a16
  | .jnz a16 => format3 (opJcc condNZ) a16
  | .jz a16 => format3 (opJcc condZ) a16
  | .jnc a16 => format3 (opJcc condNC) a16
  | .jc a16 => format3 (opJcc condC) a16
  | .jpo a16 => format3 (opJcc condPO) a16
  | .jpe a16 => format3 (opJcc condPE) a16
  | .jp a16 => format3 (opJcc condP) a16
  | .jm a16 => format3 (opJcc condM) a16
  | .call a16 => format3 0xCD a16
  | .cnz a16 => format3 (opCcc condNZ) a16
  | .cz a16 => format3 (opCcc condZ) a16
  | .cnc a16 => format3 (opCcc condNC) a16
  | .cc a16 => format3 (opCcc condC) a16
  | .cpo a16 => format3 (opCcc condPO) a16
  | .cpe a16 => format3 (opCcc condPE) a16
  | .cp a16 => format3 (opCcc condP) a16
  | .cm a16 => format3 (opCcc condM) a16
  | .ret => [0xC9]
  | .rnz => [opRcc condNZ]
  | .rz => [opRcc condZ]
  | .rnc => [opRcc condNC]
  | .rc => [opRcc condC]
  | .rpo => [opRcc condPO]
  | .rpe => [opRcc condPE]
  | .rp => [opRcc condP]
  | .rm => [opRcc condM]
  | .rst0 => [opRst 0]
  | .rst1 => [opRst 1]
  | .rst2 => [opRst 2]
  | .rst3 => [opRst 3]
  | .rst4 => [opRst 4]
  | .rst5 => [opRst 5]
  | .rst6 => [opRst 6]
  | .rst7 => [opRst 7]
  | .pchl => [0xE9]
  | .pushB => [opPush pairBC]
  | .pushD => [opPush pairDE]
  | .pushH => [opPush pairHL]
  | .pushPSW => [opPush pairSP]
  | .popB => [opPop pairBC]
  | .popD => [opPop pairDE]
  | .popH => [opPop pairHL]
  | .popPSW => [opPop pairSP]
  | .xthl => [0xE3]
  | .sphl => [0xF9]
  | .inPort p8 => format2 0xDB p8
  | .outPort p8 => format2 0xD3 p8
  | .ei => [0xFB]
  | .di => [0xF3]
  | .hlt => [0x76]
  | .nop => [0x00]
  | .undef08 => [0x08]
  | .undef10 => [0x10]
  | .undef18 => [0x18]
  | .undef20 => [0x20]
  | .undef28 => [0x28]
  | .undef30 => [0x30]
  | .undef38 => [0x38]
  | .undefCB a16 => format3 0xCB a16
  | .undefD9 => [0xD9]
  | .undefDD a16 => format3 0xDD a16
  | .undefED a16 => format3 0xED a16
  | .undefFD a16 => format3 0xFD a16

end Sys2Proof
end

