-- ==== Sys2Proof/Machine/State.lean ====
section
/-! DEFINITION. The state of one session (spec 10_state.md; 20_memory.md R50) as plain data, the reasons a step can stop, and
the state right after reset (10_state.md R38). -/

namespace Sys2Proof.Machine

/-- The five condition flags, "five independent boolean condition flags" (10_state.md R26). -/
structure Flags where
  /-- zero -/
  z : Bool
  /-- sign: bit 7 of the result -/
  s : Bool
  /-- parity: set when even -/
  p : Bool
  /-- carry; after a subtraction or comparison the borrow -/
  cy : Bool
  /-- auxiliary carry: the carry out of bit 3 -/
  ac : Bool
deriving DecidableEq, Repr

/-- The names of the seven general registers (10_state.md R20; codes in 30_encoding.md R75). -/
inductive Reg where
  | b | c | d | e | h | l | a
deriving DecidableEq, Repr

/-- The 16-bit operands that a register-pair code selects in LXI, INX, DCX and DAD (30_encoding.md R77): the three pairs,
which are views of two registers (10_state.md R22), and the stack pointer (R25). -/
inductive Rp where
  | bc | de | hl | sp
deriving DecidableEq, Repr

/-- The recorded value of a decode fault: "a decode error identifying the opcode and address" (60_exceptions.md R261). -/
structure DecodeFault where
  opcode : Byte
  addr : Word
deriving DecidableEq, Repr

/-- What the last `step()` of the session returned (30_encoding.md R74). The model's own record (assumption log 7). -/
inductive StepReturn where
  /-- No `step()` has been called since reset. -/
  | nothing
  /-- The cycle count (30_encoding.md R87, R88). -/
  | cycles (n : Nat)
  /-- The decode fault (60_exceptions.md R261). -/
  | fault (f : DecodeFault)
deriving DecidableEq, Repr

/-- One call that the core made on the I/O Port Interface (45_io_control.md R247). -/
inductive PortCall where
  /-- `portIn(port)`, answered with `answer`. -/
  | input (port answer : Byte)
  /-- `portOut(port, value)`. -/
  | output (port value : Byte)
deriving DecidableEq, Repr

/-- Memory as (address, byte) cells, addresses strictly rising and below 65536, with no cell that holds what an unlisted
address reads as (`Memory.wf`). 20_memory.md R50: every one of the 65,536 addresses holds a byte. -/
abbrev Memory := List Host.Cell

/-- What an address that memory does not list reads as. DESIGN CHOICE (assumption log 6): the spec leaves `INIT_MEM` open. -/
def unlistedByte : Byte := 0x00

/-- The canonical form of memory: equal contents are equal lists. -/
def Memory.wf : Memory → Bool
  | [] => true
  | (k, v) :: rest => decide (k < 65536) && decide (v ≠ unlistedByte) && rest.all (fun c => decide (k < c.1)) && wf rest

/-- The Processor State (10_state.md, opening tuple), and after it four fields that are the model's own. -/
structure State where
  /-- R20 -/
  b : Byte
  c : Byte
  d : Byte
  e : Byte
  h : Byte
  l : Byte
  /-- the accumulator, R20 -/
  a : Byte
  /-- R26 -/
  flags : Flags
  /-- R24: between steps, the address of the next opcode byte -/
  pc : Word
  /-- R25: the address of the byte most recently pushed -/
  sp : Word
  /-- R32: interrupt enable -/
  inte : Bool
  /-- R33 -/
  halted : Bool
  /-- R34 -/
  faulted : Option DecodeFault
  /-- 20_memory.md R50 -/
  mem : Memory
  /-- The session's parameters (00_scope.md R5). The model's own field: assumption log 1. -/
  params : Params
  /-- What the last `step()` returned. The model's own field: assumption log 7. -/
  lastReturn : StepReturn
  /-- The port calls made so far, oldest first (45_io_control.md R247). The model's own field: assumption log 10. -/
  portCalls : List PortCall
  /-- The bytes the host will answer to the next `portIn` calls, oldest first (R247). The model's own: assumption log 9. -/
  portAnswers : List Byte
deriving DecidableEq, Repr

/-- Why the machine stops. -/
inductive Fault where
  /-- Raised by `step` alone, in a state whose `faulted` mark is set: "every later `step()` returns the same fault and changes
  nothing" until a reset (60_exceptions.md R262). Safe: the spec calls the session dead. Assumption log 8. -/
  | decodeFault (opcode : Byte) (addr : Word)
deriving DecidableEq, Repr

/-- Why the model gives no next state. -/
inductive Refusal where
  /-- An instruction without a meaning, by its mnemonic. No arm of exec answers it. Safe. -/
  | notModelled (mnemonic : String)
  /-- Raised by `launch`: an image longer than 65,536 bytes "is refused by the model (no reset)" (70_reset_and_hazards.md
  R291). Safe. -/
  | oversizeImage (bytes : Nat)
deriving DecidableEq, Repr

/-- The session's parameters at `State.reset`: the spec's defaults for the two policies (00_scope.md R5; assumption logs 2
and 3), and DESIGN CHOICE 0x0008 for `INT_VECTOR` (assumption log 4). -/
def Params.reset : Params := { intVector := 0x0008, undefPolicy := .fault, anaAcMode := .clear }

/-- All five flags 0 (10_state.md R38). -/
def Flags.reset : Flags := { z := false, s := false, p := false, cy := false, ac := false }

/-- The machine right after reset (10_state.md R38), for the launch that gives `ENTRY` = 0x0000 and `SP_INIT` = 0x0000
(DESIGN CHOICE, assumption log 5), no image, and `INIT_MEM` 0x00 everywhere (DESIGN CHOICE, assumption log 6). Resets of every
other launch are `launch` (Machine/Session.lean). -/
def State.reset : State :=
  { b := 0x00, c := 0x00, d := 0x00, e := 0x00, h := 0x00, l := 0x00, a := 0x00
    flags := Flags.reset
    pc := 0x0000
    sp := 0x0000
    inte := false
    halted := false
    faulted := none
    mem := []
    params := Params.reset
    lastReturn := .nothing
    portCalls := []
    portAnswers := [] }

end Sys2Proof.Machine
end

