-- ==== Sys2Proof/Machine/Ops.lean ====
section
/-! DEFINITION. The named operations over memory, registers and pairs, the stack, the ports; fetching; completing an
instruction; and TAKING AN EXCEPTION: the decode fault (60_exceptions.md R261) and interrupt acceptance (R265), with the pop
that returns from the latter (R267) beside them. -/

namespace Sys2Proof.Machine

/-! ## Bytes of words -/

/-- `v[15:8]` (00_scope.md R6). -/
def hiByte (v : Word) : Byte := v.extractLsb' 8 8

/-- `v[7:0]` (00_scope.md R6). -/
def loByte (v : Word) : Byte := v.extractLsb' 0 8

/-- `hi ++ lo` (00_scope.md R6). -/
def joinBytes (hi lo : Byte) : Word := hi ++ lo

/-- A Boolean as a byte: 1 or 0. -/
def bitByte (x : Bool) : Byte := if x then 0x01 else 0x00

/-! ## Memory (20_memory.md R50 to R62; 00_scope.md R9) -/

/-- The byte that the first cell of address `k` holds, or what an unlisted address reads as. -/
def Memory.lookup : Memory → Nat → Byte
  | [], _ => unlistedByte
  | (k, v) :: rest, a => if k = a then v else Memory.lookup rest a

/-- Puts a cell before the first cell of a higher address. -/
def Memory.place : Memory → Nat → Byte → Memory
  | [], a, v => [(a, v)]
  | (k, w) :: rest, a, v => if a < k then (a, v) :: (k, w) :: rest else (k, w) :: Memory.place rest a v

/-- `MemRead(a, 1)`. -/
def Memory.read (m : Memory) (a : Word) : Byte := m.lookup a.toNat

/-- `MemWrite(a, 1, v)`. A byte that an unlisted address reads as is kept by listing nothing. -/
def Memory.write (m : Memory) (a : Word) (v : Byte) : Memory :=
  let others : Memory := m.filter (fun c => decide (c.1 ≠ a.toNat))
  if v = unlistedByte then others else Memory.place others a.toNat v

/-- `MemRead(a, 2)`: little-endian, each address wrapped (00_scope.md R9; 20_memory.md R56, R58). -/
def Memory.read16 (m : Memory) (a : Word) : Word := joinBytes (m.read (a + 1)) (m.read a)

/-- `MemWrite(a, 2, v)`: the low byte at `a`, then the high byte at `a + 1` (00_scope.md R9; 20_memory.md R56). -/
def Memory.write16 (m : Memory) (a : Word) (v : Word) : Memory := (m.write a (loByte v)).write (a + 1) (hiByte v)

/-- A memory with the same contents in canonical form; cells that no address reaches are dropped. -/
def Memory.canonical (cells : List Host.Cell) : Memory :=
  cells.foldr (fun cell (m : Memory) => if cell.1 < 65536 then m.write (BitVec.ofNat 16 cell.1) cell.2 else m) []

/-- The image load: byte `i` goes to `u16(IMAGE_BASE + i)` (70_reset_and_hazards.md R291). -/
def Memory.loadImage (m : Memory) (base : Word) : List Byte → Memory
  | [] => m
  | v :: rest => Memory.loadImage (m.write base v) (base + 1) rest

/-- `MemRead(a, 1)` on the state. -/
def State.memRead (s : State) (a : Word) : Byte := s.mem.read a

/-- `MemWrite(a, 1, v)` on the state. -/
def State.memWrite (s : State) (a : Word) (v : Byte) : State := { s with mem := s.mem.write a v }

/-! ## Registers and pairs (10_state.md R20 to R25; 00_scope.md R8) -/

/-- `x[r]`. -/
def State.getReg (s : State) : Reg → Byte
  | .b => s.b
  | .c => s.c
  | .d => s.d
  | .e => s.e
  | .h => s.h
  | .l => s.l
  | .a => s.a

/-- `x[r] <- v`. -/
def State.setReg (s : State) (r : Reg) (v : Byte) : State :=
  match r with
  | .b => { s with b := v }
  | .c => { s with c := v }
  | .d => { s with d := v }
  | .e => { s with e := v }
  | .h => { s with h := v }
  | .l => { s with l := v }
  | .a => { s with a := v }

/-- `rp16(code)`: a pair, "high register first, low register second" (10_state.md R22), or sp (30_encoding.md R77). -/
def State.getRp (s : State) : Rp → Word
  | .bc => joinBytes s.b s.c
  | .de => joinBytes s.d s.e
  | .hl => joinBytes s.h s.l
  | .sp => s.sp

/-- `rp16(code) <- v`: both halves of a pair (10_state.md R22), or sp. -/
def State.setRp (s : State) (rp : Rp) (v : Word) : State :=
  match rp with
  | .bc => { s with b := hiByte v, c := loByte v }
  | .de => { s with d := hiByte v, e := loByte v }
  | .hl => { s with h := hiByte v, l := loByte v }
  | .sp => { s with sp := v }

/-- `rp[HL]`, the address of the memory operand M (30_encoding.md R76). -/
def State.hl (s : State) : Word := s.getRp .hl

/-- `pc <- target`. -/
def State.jumpTo (s : State) (target : Word) : State := { s with pc := target }

/-! ## The stack (44_stack.md R220, R221) -/

/-- `push16(v)`: the high byte at sp - 1, then the low byte at sp - 2, then sp goes down by 2. -/
def State.push16 (s : State) (v : Word) : State :=
  { s with mem := (s.mem.write (s.sp - 1) (hiByte v)).write (s.sp - 2) (loByte v), sp := s.sp - 2 }

/-- The value `pop16()` returns. -/
def State.stackTop (s : State) : Word := s.mem.read16 s.sp

/-- `pop16()`'s effect on sp; the memory it reads is not changed. -/
def State.dropTop (s : State) : State := { s with sp := s.sp + 2 }

/-- `push16(next); pc <- target`, in a state whose pc is `next` (43_branch.md R203, R207). -/
def State.callTo (s : State) (target : Word) : State := (s.push16 s.pc).jumpTo target

/-- `pc <- pop16()` (43_branch.md R205), which is also the whole of a return from an interrupt (60_exceptions.md R267). -/
def State.returnFrom (s : State) : State := s.dropTop.jumpTo s.stackTop

/-! ## The I/O Port Interface (00_scope.md R10; 45_io_control.md R247) -/

/-- The byte the host answers to `portIn(port)`: the first of the answers it has given, or else the free value (45_io_control.md
R247). DESIGN CHOICE, unsafe: the free value counts calls from reset, so the reads of two sessions at the same port and the same
count are tied, which R247 does not say (assumption logs 9, 20). -/
def State.portAnswer (s : State) (port : Byte) : Byte :=
  match s.portAnswers with
  | v :: _ => v
  | [] => Config.portIn port s.portCalls.length

/-- `PortIn(port)`'s effect: one call, and the answer used up. -/
def State.portIn (s : State) (port : Byte) : State :=
  { s with portCalls := s.portCalls ++ [.input port (s.portAnswer port)], portAnswers := s.portAnswers.tail }

/-- `PortOut(port, v)`: one call, recorded as an output event. -/
def State.portOut (s : State) (port v : Byte) : State := { s with portCalls := s.portCalls ++ [.output port v] }

/-! ## Fetching and completing an instruction (30_encoding.md R74) -/

/-- The instruction at the pc: its bytes are read at pc, pc + 1 and pc + 2, each address wrapped (30_encoding.md R78), before
any data access (20_memory.md R66). A byte that the instruction does not have is read and not used: reads have no side
effects (20_memory.md R61; assumption log 12). -/
def State.fetch (s : State) : Instr := decodeOp (s.mem.read s.pc) (s.mem.read (s.pc + 1)) (s.mem.read (s.pc + 2))

/-- `pc <- next`, where `next = u16(pc0 + length)` (00_scope.md R13). -/
def State.advance (s : State) (len : Word) : State := { s with pc := s.pc + len }

/-- What `step()` returns. -/
def State.returns (s : State) (r : StepReturn) : State := { s with lastReturn := r }

/-- One instruction of `len` bytes and `cycles` cycles: the pc moves to `next`, then `effect` happens. -/
def complete (len : Word) (cycles : Nat) (effect : State → State) (s : State) : Host.Outcome State Fault Refusal :=
  .next ((effect (s.advance len)).returns (.cycles cycles))

/-- A conditional instruction: `effect` happens when `taken`, and the cycle count depends on it (30_encoding.md R87). -/
def completeIf (taken : Bool) (len : Word) (cyclesTaken cyclesNotTaken : Nat) (effect : State → State) (s : State) :
    Host.Outcome State Fault Refusal :=
  if taken then complete len cyclesTaken effect s else complete len cyclesNotTaken id s

/-- `HALT_IDLE_CYCLES`, the spec's value (00_scope.md R5, decision D5). Assumption log 14. -/
def haltIdleCycles : Nat := 4

/-- A step while halted: no fetch, no state change, `HALT_IDLE_CYCLES` returned (30_encoding.md R88). -/
def State.idle (s : State) : State := s.returns (.cycles haltIdleCycles)

/-! ## Taking an exception -/

/-- `raise DecodeFault(op, addr)`: the fault is recorded in the `faulted` mark and returned; the pc and every other element
keep their values (60_exceptions.md R261; 00_scope.md R11). -/
def State.raiseDecodeFault (s : State) (op : Byte) (addr : Word) : State :=
  { s with faulted := some { opcode := op, addr := addr }, lastReturn := .fault { opcode := op, addr := addr } }

/-- An undefined opcode (45_io_control.md R246): under `fault` the DecodeFault of this opcode at the pc, under `nop` a 1-byte
NOP of 4 cycles, under the spec's `alias` what the silicon runs. -/
def undefinedOpcode (op : Byte) (onAlias : State → Host.Outcome State Fault Refusal) (s : State) :
    Host.Outcome State Fault Refusal :=
  match s.params.undefPolicy with
  | .fault => .next (s.raiseDecodeFault op s.pc)
  | .nop => complete 1 4 id s
  | .aliased => onAlias s

/-- The acceptance of an interrupt (60_exceptions.md R265, its last four lines): interrupts and the halt end, the pc is
pushed, and the pc becomes the fixed vector. -/
def State.acceptInterrupt (s : State) : State :=
  ({ s with inte := false, halted := false }.push16 s.pc).jumpTo s.params.intVector

/-- `raiseInterrupt()`, called by the host between two steps (60_exceptions.md R265): no effect after a decode fault (R262),
dropped while interrupts are disabled (R266), else accepted. -/
def State.raiseInterrupt (s : State) : State :=
  match s.faulted with
  | some _ => s
  | none => if s.inte then s.acceptInterrupt else s

end Sys2Proof.Machine
end

