-- ==== Sys2Proof/Machine/Flags.lean ====
section
/-! DEFINITION. Every flag computation of the spec: parity (00_scope.md R12), the ALU primitives and result flags
(41_arithmetic.md R130 to R132), the flag byte (10_state.md R27, R28), the Boolean flag rule (42_logical.md R170), and the
accumulator operations that write flags. Sums are exact in Nat and narrowed at the end (00_scope.md R7). -/

namespace Sys2Proof.Machine

/-- How many bits of a byte are 1. -/
def bitCount (v : Byte) : Nat := ((List.range 8).filter (fun i => v.getLsbD i)).length

/-- `parity(v)`: 1 when the number of 1 bits is even (00_scope.md R12). -/
def parity (v : Byte) : Bool := bitCount v % 2 == 0

/-- `v[3:0]` as a number. -/
def lowNibble (v : Byte) : Nat := v.toNat % 16

/-- `v[7:4]` as a number. -/
def highNibble (v : Byte) : Nat := v.toNat / 16

/-- What an ALU primitive returns: `(res, cy, ac)`. -/
structure AluResult where
  res : Byte
  cy : Bool
  ac : Bool
deriving DecidableEq, Repr

/-- `add8(a, b, cin)` (41_arithmetic.md R130). -/
def add8 (a b : Byte) (cin : Bool) : AluResult :=
  let sum := a.toNat + b.toNat + cin.toNat
  { res := BitVec.ofNat 8 sum
    cy := decide (sum > 0xFF)
    ac := decide (lowNibble a + lowNibble b + cin.toNat > 0xF) }

/-- `sub8(a, b, bin)`, computed as `a + ~b + (1 - bin)`: CY is the borrow, AC the carry out of bit 3 of that addition
(41_arithmetic.md R131). -/
def sub8 (a b : Byte) (bin : Bool) : AluResult :=
  let nb := ~~~b
  let c0 := 1 - bin.toNat
  let sum := a.toNat + nb.toNat + c0
  { res := BitVec.ofNat 8 sum
    cy := !decide (sum > 0xFF)
    ac := decide (lowNibble a + lowNibble nb + c0 > 0xF) }

/-- `setszp(res)` (41_arithmetic.md R132). -/
def Flags.setszp (f : Flags) (res : Byte) : Flags :=
  { f with z := decide (res = 0x00), s := res.getLsbD 7, p := parity res }

/-- `setflags(res, cy, ac)` (41_arithmetic.md R132). -/
def Flags.setflags (f : Flags) (r : AluResult) : Flags := { f.setszp r.res with cy := r.cy, ac := r.ac }

/-- The Boolean flag rule: Z, S, P from the result, CY 0, and the given AC (42_logical.md R170). -/
def Flags.logic (f : Flags) (res : Byte) (ac : Bool) : Flags := { f.setszp res with cy := false, ac := ac }

/-- The auxiliary carry of ANA and ANI under `ANA_AC_MODE` (42_logical.md R170). -/
def anaAc (mode : AnaAcMode) (aOld operand : Byte) : Bool :=
  match mode with
  | .clear => false
  | .orBit3 => (aOld ||| operand).getLsbD 3

/-- `flagbyte()`: `S, Z, 0, AC, 0, P, 1, CY` from bit 7 to bit 0 (10_state.md R27). -/
def Flags.byte (f : Flags) : Byte :=
  (bitByte f.s <<< 7) ||| (bitByte f.z <<< 6) ||| (bitByte f.ac <<< 4) ||| (bitByte f.p <<< 2) ||| 0x02 ||| bitByte f.cy

/-- The flags that a popped flag byte gives; bits 5, 3 and 1 are discarded (10_state.md R28). -/
def Flags.ofByte (v : Byte) : Flags :=
  { s := v.getLsbD 7, z := v.getLsbD 6, ac := v.getLsbD 4, p := v.getLsbD 2, cy := v.getLsbD 0 }

/-! ## Accumulator operations that write flags -/

/-- `A <- res; setflags(res, cy, ac)` of an addition (41_arithmetic.md R133 to R138). -/
def State.addA (s : State) (v : Byte) (cin : Bool) : State :=
  { s with a := (add8 s.a v cin).res, flags := s.flags.setflags (add8 s.a v cin) }

/-- `A <- res; setflags(res, cy, ac)` of a subtraction (41_arithmetic.md R139 to R144). -/
def State.subA (s : State) (v : Byte) (bin : Bool) : State :=
  { s with a := (sub8 s.a v bin).res, flags := s.flags.setflags (sub8 s.a v bin) }

/-- The flags of a subtraction; A is not written (42_logical.md R180 to R182). -/
def State.cmpA (s : State) (v : Byte) : State := { s with flags := s.flags.setflags (sub8 s.a v false) }

/-- AND into A (42_logical.md R171 to R173). -/
def State.andA (s : State) (v : Byte) : State :=
  { s with a := s.a &&& v, flags := s.flags.logic (s.a &&& v) (anaAc s.params.anaAcMode s.a v) }

/-- Exclusive OR into A (42_logical.md R174 to R176). -/
def State.xorA (s : State) (v : Byte) : State := { s with a := s.a ^^^ v, flags := s.flags.logic (s.a ^^^ v) false }

/-- OR into A (42_logical.md R177 to R179). -/
def State.orA (s : State) (v : Byte) : State := { s with a := s.a ||| v, flags := s.flags.logic (s.a ||| v) false }

/-- The flags of INR: Z, S, P of the result, AC when the old low nibble is 0xF; CY is kept (41_arithmetic.md R145). -/
def Flags.inr (f : Flags) (v : Byte) : Flags := { f.setszp (v + 1) with ac := decide (lowNibble v = 0xF) }

/-- The flags of DCR: Z, S, P of the result, AC when the old low nibble is not 0; CY is kept (41_arithmetic.md R147). -/
def Flags.dcr (f : Flags) (v : Byte) : Flags := { f.setszp (v - 1) with ac := decide (lowNibble v ≠ 0x0) }

/-- `F.CY <- c`. -/
def State.setCy (s : State) (x : Bool) : State := { s with flags := { s.flags with cy := x } }

/-- DAD: `rp[HL] <- u16(HL + v)`, CY the carry out of bit 15 (41_arithmetic.md R151). -/
def State.addHl (s : State) (v : Word) : State :=
  (s.setRp .hl (s.hl + v)).setCy (decide (s.hl.toNat + v.toNat > 0xFFFF))

/-- The correction that DAA adds, and its carry (41_arithmetic.md R152). -/
def daaCorrection (a : Byte) (f : Flags) : Byte × Bool :=
  let lo := lowNibble a
  let hi := highNibble a
  let low : Byte := if f.ac || decide (lo > 9) then 0x06 else 0x00
  if f.cy || decide (hi > 9) || (decide (hi ≥ 9) && decide (lo > 9)) then (low + 0x60, true) else (low, f.cy)

/-- DAA (41_arithmetic.md R152): AC is the carry out of bit 3 of the correcting addition, CY is never cleared. -/
def State.daa (s : State) : State :=
  let corr := daaCorrection s.a s.flags
  let r := add8 s.a corr.1 false
  { s with a := r.res, flags := { s.flags.setszp r.res with ac := r.ac, cy := corr.2 } }

/-- RLC (42_logical.md R183). -/
def State.rlc (s : State) : State :=
  { s with a := (s.a <<< 1) ||| bitByte (s.a.getLsbD 7), flags := { s.flags with cy := s.a.getLsbD 7 } }

/-- RRC (42_logical.md R184). -/
def State.rrc (s : State) : State :=
  { s with a := (s.a >>> 1) ||| (bitByte (s.a.getLsbD 0) <<< 7), flags := { s.flags with cy := s.a.getLsbD 0 } }

/-- RAL: the old CY goes into bit 0 (42_logical.md R185). -/
def State.ral (s : State) : State :=
  { s with a := (s.a <<< 1) ||| bitByte s.flags.cy, flags := { s.flags with cy := s.a.getLsbD 7 } }

/-- RAR: the old CY goes into bit 7 (42_logical.md R186). -/
def State.rar (s : State) : State :=
  { s with a := (s.a >>> 1) ||| (bitByte s.flags.cy <<< 7), flags := { s.flags with cy := s.a.getLsbD 0 } }

end Sys2Proof.Machine
end

