-- ==== Sys2Proof/Machine/Operands.lean ====
section
/-! DEFINITION. The operand forms of the spec: an 8-bit register or the memory operand M (30_encoding.md R75, R76), the
register pairs (R77, in Machine/Ops.lean), PSW (10_state.md R27), and the eight conditions (43_branch.md R200). -/

namespace Sys2Proof.Machine

/-- What a register code names: one of the seven registers, or the byte at HL (30_encoding.md R75, R76). -/
inductive Operand8 where
  | reg (r : Reg)
  /-- code 110 -/
  | m
deriving DecidableEq, Repr

/-- `src8(code)`; HL is read when the operand is (30_encoding.md R76; before MOV H,M or MOV L,M writes H or L: assumption
log 21). -/
def State.src8 (s : State) : Operand8 → Byte
  | .reg r => s.getReg r
  | .m => s.memRead s.hl

/-- `dst8(code) <- v` (30_encoding.md R76). -/
def State.dst8 (s : State) (o : Operand8) (v : Byte) : State :=
  match o with
  | .reg r => s.setReg r v
  | .m => s.memWrite s.hl v

/-- INR on a register or M (41_arithmetic.md R145, R146). -/
def State.inr8 (s : State) (o : Operand8) : State :=
  { s.dst8 o (s.src8 o + 1) with flags := s.flags.inr (s.src8 o) }

/-- DCR on a register or M (41_arithmetic.md R147, R148). -/
def State.dcr8 (s : State) (o : Operand8) : State :=
  { s.dst8 o (s.src8 o - 1) with flags := s.flags.dcr (s.src8 o) }

/-- PSW as a 16-bit value, A in the high byte (10_state.md R27). -/
def State.psw (s : State) : Word := joinBytes s.a s.flags.byte

/-- PSW from a 16-bit value (44_stack.md R225; 10_state.md R28). -/
def State.setPsw (s : State) (v : Word) : State := { s with a := hiByte v, flags := Flags.ofByte (loByte v) }

/-- The conditions of the branch instructions (43_branch.md R200). -/
inductive Cond where
  | nz | z | nc | c | po | pe | p | m
deriving DecidableEq, Repr

/-- `cond(ccc)` (43_branch.md R200). -/
def Flags.holds (f : Flags) : Cond → Bool
  | .nz => !f.z
  | .z => f.z
  | .nc => !f.cy
  | .c => f.cy
  | .po => !f.p
  | .pe => f.p
  | .p => !f.s
  | .m => f.s

end Sys2Proof.Machine
end

