-- ==== Sys2Proof/Machine/Arithmetic.lean ====
section
/-! DEFINITION. Arithmetic (spec 41_arithmetic.md).
One meaning per instruction. In each, the pc already holds `next` when the effect begins (00_scope.md R13); the two numbers are
the instruction's length in bytes and its cycle count (30_encoding.md R81, R87). -/

namespace Sys2Proof.Machine

/-- ADD B (R133). -/
def execAddB (s : State) : Host.Outcome State Fault Refusal :=
  complete 1 4 (fun s => s.addA (s.src8 (.reg .b)) false) s

/-- ADD C (R133). -/
def execAddC (s : State) : Host.Outcome State Fault Refusal :=
  complete 1 4 (fun s => s.addA (s.src8 (.reg .c)) false) s

/-- ADD D (R133). -/
def execAddD (s : State) : Host.Outcome State Fault Refusal :=
  complete 1 4 (fun s => s.addA (s.src8 (.reg .d)) false) s

/-- ADD E (R133). -/
def execAddE (s : State) : Host.Outcome State Fault Refusal :=
  complete 1 4 (fun s => s.addA (s.src8 (.reg .e)) false) s

/-- ADD H (R133). -/
def execAddH (s : State) : Host.Outcome State Fault Refusal :=
  complete 1 4 (fun s => s.addA (s.src8 (.reg .h)) false) s

/-- ADD L (R133). -/
def execAddL (s : State) : Host.Outcome State Fault Refusal :=
  complete 1 4 (fun s => s.addA (s.src8 (.reg .l)) false) s

/-- ADD A (R133). -/
def execAddA (s : State) : Host.Outcome State Fault Refusal :=
  complete 1 4 (fun s => s.addA (s.src8 (.reg .a)) false) s

/-- ADD M (R134). -/
def execAddM (s : State) : Host.Outcome State Fault Refusal :=
  complete 1 7 (fun s => s.addA (s.src8 .m) false) s

/-- ADI d8 (R135). -/
def execAdi (d8 : Byte) (s : State) : Host.Outcome State Fault Refusal :=
  complete 2 7 (fun s => s.addA d8 false) s

/-- ADC B (R136). -/
def execAdcB (s : State) : Host.Outcome State Fault Refusal :=
  complete 1 4 (fun s => s.addA (s.src8 (.reg .b)) s.flags.cy) s

/-- ADC C (R136). -/
def execAdcC (s : State) : Host.Outcome State Fault Refusal :=
  complete 1 4 (fun s => s.addA (s.src8 (.reg .c)) s.flags.cy) s

/-- ADC D (R136). -/
def execAdcD (s : State) : Host.Outcome State Fault Refusal :=
  complete 1 4 (fun s => s.addA (s.src8 (.reg .d)) s.flags.cy) s

/-- ADC E (R136). -/
def execAdcE (s : State) : Host.Outcome State Fault Refusal :=
  complete 1 4 (fun s => s.addA (s.src8 (.reg .e)) s.flags.cy) s

/-- ADC H (R136). -/
def execAdcH (s : State) : Host.Outcome State Fault Refusal :=
  complete 1 4 (fun s => s.addA (s.src8 (.reg .h)) s.flags.cy) s

/-- ADC L (R136). -/
def execAdcL (s : State) : Host.Outcome State Fault Refusal :=
  complete 1 4 (fun s => s.addA (s.src8 (.reg .l)) s.flags.cy) s

/-- ADC A (R136). -/
def execAdcA (s : State) : Host.Outcome State Fault Refusal :=
  complete 1 4 (fun s => s.addA (s.src8 (.reg .a)) s.flags.cy) s

/-- ADC M (R137). -/
def execAdcM (s : State) : Host.Outcome State Fault Refusal :=
  complete 1 7 (fun s => s.addA (s.src8 .m) s.flags.cy) s

/-- ACI d8 (R138). -/
def execAci (d8 : Byte) (s : State) : Host.Outcome State Fault Refusal :=
  complete 2 7 (fun s => s.addA d8 s.flags.cy) s

/-- SUB B (R139). -/
def execSubB (s : State) : Host.Outcome State Fault Refusal :=
  complete 1 4 (fun s => s.subA (s.src8 (.reg .b)) false) s

/-- SUB C (R139). -/
def execSubC (s : State) : Host.Outcome State Fault Refusal :=
  complete 1 4 (fun s => s.subA (s.src8 (.reg .c)) false) s

/-- SUB D (R139). -/
def execSubD (s : State) : Host.Outcome State Fault Refusal :=
  complete 1 4 (fun s => s.subA (s.src8 (.reg .d)) false) s

/-- SUB E (R139). -/
def execSubE (s : State) : Host.Outcome State Fault Refusal :=
  complete 1 4 (fun s => s.subA (s.src8 (.reg .e)) false) s

/-- SUB H (R139). -/
def execSubH (s : State) : Host.Outcome State Fault Refusal :=
  complete 1 4 (fun s => s.subA (s.src8 (.reg .h)) false) s

/-- SUB L (R139). -/
def execSubL (s : State) : Host.Outcome State Fault Refusal :=
  complete 1 4 (fun s => s.subA (s.src8 (.reg .l)) false) s

/-- SUB A (R139). -/
def execSubA (s : State) : Host.Outcome State Fault Refusal :=
  complete 1 4 (fun s => s.subA (s.src8 (.reg .a)) false) s

/-- SUB M (R140). -/
def execSubM (s : State) : Host.Outcome State Fault Refusal :=
  complete 1 7 (fun s => s.subA (s.src8 .m) false) s

/-- SUI d8 (R141). -/
def execSui (d8 : Byte) (s : State) : Host.Outcome State Fault Refusal :=
  complete 2 7 (fun s => s.subA d8 false) s

/-- SBB B (R142). -/
def execSbbB (s : State) : Host.Outcome State Fault Refusal :=
  complete 1 4 (fun s => s.subA (s.src8 (.reg .b)) s.flags.cy) s

/-- SBB C (R142). -/
def execSbbC (s : State) : Host.Outcome State Fault Refusal :=
  complete 1 4 (fun s => s.subA (s.src8 (.reg .c)) s.flags.cy) s

/-- SBB D (R142). -/
def execSbbD (s : State) : Host.Outcome State Fault Refusal :=
  complete 1 4 (fun s => s.subA (s.src8 (.reg .d)) s.flags.cy) s

/-- SBB E (R142). -/
def execSbbE (s : State) : Host.Outcome State Fault Refusal :=
  complete 1 4 (fun s => s.subA (s.src8 (.reg .e)) s.flags.cy) s

/-- SBB H (R142). -/
def execSbbH (s : State) : Host.Outcome State Fault Refusal :=
  complete 1 4 (fun s => s.subA (s.src8 (.reg .h)) s.flags.cy) s

/-- SBB L (R142). -/
def execSbbL (s : State) : Host.Outcome State Fault Refusal :=
  complete 1 4 (fun s => s.subA (s.src8 (.reg .l)) s.flags.cy) s

/-- SBB A (R142). -/
def execSbbA (s : State) : Host.Outcome State Fault Refusal :=
  complete 1 4 (fun s => s.subA (s.src8 (.reg .a)) s.flags.cy) s

/-- SBB M (R143). -/
def execSbbM (s : State) : Host.Outcome State Fault Refusal :=
  complete 1 7 (fun s => s.subA (s.src8 .m) s.flags.cy) s

/-- SBI d8 (R144). -/
def execSbi (d8 : Byte) (s : State) : Host.Outcome State Fault Refusal :=
  complete 2 7 (fun s => s.subA d8 s.flags.cy) s

/-- INR B (R145). -/
def execInrB (s : State) : Host.Outcome State Fault Refusal :=
  complete 1 5 (fun s => s.inr8 (.reg .b)) s

/-- INR C (R145). -/
def execInrC (s : State) : Host.Outcome State Fault Refusal :=
  complete 1 5 (fun s => s.inr8 (.reg .c)) s

/-- INR D (R145). -/
def execInrD (s : State) : Host.Outcome State Fault Refusal :=
  complete 1 5 (fun s => s.inr8 (.reg .d)) s

/-- INR E (R145). -/
def execInrE (s : State) : Host.Outcome State Fault Refusal :=
  complete 1 5 (fun s => s.inr8 (.reg .e)) s

/-- INR H (R145). -/
def execInrH (s : State) : Host.Outcome State Fault Refusal :=
  complete 1 5 (fun s => s.inr8 (.reg .h)) s

/-- INR L (R145). -/
def execInrL (s : State) : Host.Outcome State Fault Refusal :=
  complete 1 5 (fun s => s.inr8 (.reg .l)) s

/-- INR A (R145). -/
def execInrA (s : State) : Host.Outcome State Fault Refusal :=
  complete 1 5 (fun s => s.inr8 (.reg .a)) s

/-- INR M (R146). -/
def execInrM (s : State) : Host.Outcome State Fault Refusal :=
  complete 1 10 (fun s => s.inr8 .m) s

/-- DCR B (R147). -/
def execDcrB (s : State) : Host.Outcome State Fault Refusal :=
  complete 1 5 (fun s => s.dcr8 (.reg .b)) s

/-- DCR C (R147). -/
def execDcrC (s : State) : Host.Outcome State Fault Refusal :=
  complete 1 5 (fun s => s.dcr8 (.reg .c)) s

/-- DCR D (R147). -/
def execDcrD (s : State) : Host.Outcome State Fault Refusal :=
  complete 1 5 (fun s => s.dcr8 (.reg .d)) s

/-- DCR E (R147). -/
def execDcrE (s : State) : Host.Outcome State Fault Refusal :=
  complete 1 5 (fun s => s.dcr8 (.reg .e)) s

/-- DCR H (R147). -/
def execDcrH (s : State) : Host.Outcome State Fault Refusal :=
  complete 1 5 (fun s => s.dcr8 (.reg .h)) s

/-- DCR L (R147). -/
def execDcrL (s : State) : Host.Outcome State Fault Refusal :=
  complete 1 5 (fun s => s.dcr8 (.reg .l)) s

/-- DCR A (R147). -/
def execDcrA (s : State) : Host.Outcome State Fault Refusal :=
  complete 1 5 (fun s => s.dcr8 (.reg .a)) s

/-- DCR M (R148). -/
def execDcrM (s : State) : Host.Outcome State Fault Refusal :=
  complete 1 10 (fun s => s.dcr8 .m) s

/-- INX B (R149). -/
def execInxB (s : State) : Host.Outcome State Fault Refusal :=
  complete 1 5 (fun s => s.setRp .bc (s.getRp .bc + 1)) s

/-- INX D (R149). -/
def execInxD (s : State) : Host.Outcome State Fault Refusal :=
  complete 1 5 (fun s => s.setRp .de (s.getRp .de + 1)) s

/-- INX H (R149). -/
def execInxH (s : State) : Host.Outcome State Fault Refusal :=
  complete 1 5 (fun s => s.setRp .hl (s.getRp .hl + 1)) s

/-- INX SP (R149). -/
def execInxSP (s : State) : Host.Outcome State Fault Refusal :=
  complete 1 5 (fun s => s.setRp .sp (s.getRp .sp + 1)) s

/-- DCX B (R150). -/
def execDcxB (s : State) : Host.Outcome State Fault Refusal :=
  complete 1 5 (fun s => s.setRp .bc (s.getRp .bc - 1)) s

/-- DCX D (R150). -/
def execDcxD (s : State) : Host.Outcome State Fault Refusal :=
  complete 1 5 (fun s => s.setRp .de (s.getRp .de - 1)) s

/-- DCX H (R150). -/
def execDcxH (s : State) : Host.Outcome State Fault Refusal :=
  complete 1 5 (fun s => s.setRp .hl (s.getRp .hl - 1)) s

/-- DCX SP (R150). -/
def execDcxSP (s : State) : Host.Outcome State Fault Refusal :=
  complete 1 5 (fun s => s.setRp .sp (s.getRp .sp - 1)) s

/-- DAD B (R151). -/
def execDadB (s : State) : Host.Outcome State Fault Refusal :=
  complete 1 10 (fun s => s.addHl (s.getRp .bc)) s

/-- DAD D (R151). -/
def execDadD (s : State) : Host.Outcome State Fault Refusal :=
  complete 1 10 (fun s => s.addHl (s.getRp .de)) s

/-- DAD H (R151). -/
def execDadH (s : State) : Host.Outcome State Fault Refusal :=
  complete 1 10 (fun s => s.addHl (s.getRp .hl)) s

/-- DAD SP (R151). -/
def execDadSP (s : State) : Host.Outcome State Fault Refusal :=
  complete 1 10 (fun s => s.addHl (s.getRp .sp)) s

/-- DAA (R152). -/
def execDaa (s : State) : Host.Outcome State Fault Refusal :=
  complete 1 4 (fun s => s.daa) s

end Sys2Proof.Machine
end

