-- ==== Sys2Proof/Machine/Branch.lean ====
section
/-! DEFINITION. Branches (spec 43_branch.md). No instruction of this file writes a flag (R200).
One meaning per instruction. In each, the pc already holds `next` when the effect begins (00_scope.md R13); the two numbers are
the instruction's length in bytes and its cycle counts, taken and not taken (30_encoding.md R81, R87). -/

namespace Sys2Proof.Machine

/-- The target of RST n: `zext_16(n) * 8` (43_branch.md R207). -/
def restartTarget (n : BitVec 3) : Word := n.setWidth 16 * 8

/-- JMP a16 (R201). -/
def execJmp (a16 : Word) (s : State) : Host.Outcome State Fault Refusal :=
  complete 3 10 (fun s => s.jumpTo a16) s

/-- JNZ a16 (R202). -/
def execJnz (a16 : Word) (s : State) : Host.Outcome State Fault Refusal :=
  completeIf (s.flags.holds .nz) 3 10 10 (fun s => s.jumpTo a16) s

/-- JZ a16 (R202). -/
def execJz (a16 : Word) (s : State) : Host.Outcome State Fault Refusal :=
  completeIf (s.flags.holds .z) 3 10 10 (fun s => s.jumpTo a16) s

/-- JNC a16 (R202). -/
def execJnc (a16 : Word) (s : State) : Host.Outcome State Fault Refusal :=
  completeIf (s.flags.holds .nc) 3 10 10 (fun s => s.jumpTo a16) s

/-- JC a16 (R202). -/
def execJc (a16 : Word) (s : State) : Host.Outcome State Fault Refusal :=
  completeIf (s.flags.holds .c) 3 10 10 (fun s => s.jumpTo a16) s

/-- JPO a16 (R202). -/
def execJpo (a16 : Word) (s : State) : Host.Outcome State Fault Refusal :=
  completeIf (s.flags.holds .po) 3 10 10 (fun s => s.jumpTo a16) s

/-- JPE a16 (R202). -/
def execJpe (a16 : Word) (s : State) : Host.Outcome State Fault Refusal :=
  completeIf (s.flags.holds .pe) 3 10 10 (fun s => s.jumpTo a16) s

/-- JP a16 (R202). -/
def execJp (a16 : Word) (s : State) : Host.Outcome State Fault Refusal :=
  completeIf (s.flags.holds .p) 3 10 10 (fun s => s.jumpTo a16) s

/-- JM a16 (R202). -/
def execJm (a16 : Word) (s : State) : Host.Outcome State Fault Refusal :=
  completeIf (s.flags.holds .m) 3 10 10 (fun s => s.jumpTo a16) s

/-- CALL a16 (R203). -/
def execCall (a16 : Word) (s : State) : Host.Outcome State Fault Refusal :=
  complete 3 17 (fun s => s.callTo a16) s

/-- CNZ a16 (R204). -/
def execCnz (a16 : Word) (s : State) : Host.Outcome State Fault Refusal :=
  completeIf (s.flags.holds .nz) 3 17 11 (fun s => s.callTo a16) s

/-- CZ a16 (R204). -/
def execCz (a16 : Word) (s : State) : Host.Outcome State Fault Refusal :=
  completeIf (s.flags.holds .z) 3 17 11 (fun s => s.callTo a16) s

/-- CNC a16 (R204). -/
def execCnc (a16 : Word) (s : State) : Host.Outcome State Fault Refusal :=
  completeIf (s.flags.holds .nc) 3 17 11 (fun s => s.callTo a16) s

/-- CC a16 (R204). -/
def execCc (a16 : Word) (s : State) : Host.Outcome State Fault Refusal :=
  completeIf (s.flags.holds .c) 3 17 11 (fun s => s.callTo a16) s

/-- CPO a16 (R204). -/
def execCpo (a16 : Word) (s : State) : Host.Outcome State Fault Refusal :=
  completeIf (s.flags.holds .po) 3 17 11 (fun s => s.callTo a16) s

/-- CPE a16 (R204). -/
def execCpe (a16 : Word) (s : State) : Host.Outcome State Fault Refusal :=
  completeIf (s.flags.holds .pe) 3 17 11 (fun s => s.callTo a16) s

/-- CP a16 (R204). -/
def execCp (a16 : Word) (s : State) : Host.Outcome State Fault Refusal :=
  completeIf (s.flags.holds .p) 3 17 11 (fun s => s.callTo a16) s

/-- CM a16 (R204). -/
def execCm (a16 : Word) (s : State) : Host.Outcome State Fault Refusal :=
  completeIf (s.flags.holds .m) 3 17 11 (fun s => s.callTo a16) s

/-- RET (R205). -/
def execRet (s : State) : Host.Outcome State Fault Refusal :=
  complete 1 10 (fun s => s.returnFrom) s

/-- RNZ (R206). -/
def execRnz (s : State) : Host.Outcome State Fault Refusal :=
  completeIf (s.flags.holds .nz) 1 11 5 (fun s => s.returnFrom) s

/-- RZ (R206). -/
def execRz (s : State) : Host.Outcome State Fault Refusal :=
  completeIf (s.flags.holds .z) 1 11 5 (fun s => s.returnFrom) s

/-- RNC (R206). -/
def execRnc (s : State) : Host.Outcome State Fault Refusal :=
  completeIf (s.flags.holds .nc) 1 11 5 (fun s => s.returnFrom) s

/-- RC (R206). -/
def execRc (s : State) : Host.Outcome State Fault Refusal :=
  completeIf (s.flags.holds .c) 1 11 5 (fun s => s.returnFrom) s

/-- RPO (R206). -/
def execRpo (s : State) : Host.Outcome State Fault Refusal :=
  completeIf (s.flags.holds .po) 1 11 5 (fun s => s.returnFrom) s

/-- RPE (R206). -/
def execRpe (s : State) : Host.Outcome State Fault Refusal :=
  completeIf (s.flags.holds .pe) 1 11 5 (fun s => s.returnFrom) s

/-- RP (R206). -/
def execRp (s : State) : Host.Outcome State Fault Refusal :=
  completeIf (s.flags.holds .p) 1 11 5 (fun s => s.returnFrom) s

/-- RM (R206). -/
def execRm (s : State) : Host.Outcome State Fault Refusal :=
  completeIf (s.flags.holds .m) 1 11 5 (fun s => s.returnFrom) s

/-- RST 0 (R207). -/
def execRst0 (s : State) : Host.Outcome State Fault Refusal :=
  complete 1 11 (fun s => s.callTo (restartTarget 0)) s

/-- RST 1 (R207). -/
def execRst1 (s : State) : Host.Outcome State Fault Refusal :=
  complete 1 11 (fun s => s.callTo (restartTarget 1)) s

/-- RST 2 (R207). -/
def execRst2 (s : State) : Host.Outcome State Fault Refusal :=
  complete 1 11 (fun s => s.callTo (restartTarget 2)) s

/-- RST 3 (R207). -/
def execRst3 (s : State) : Host.Outcome State Fault Refusal :=
  complete 1 11 (fun s => s.callTo (restartTarget 3)) s

/-- RST 4 (R207). -/
def execRst4 (s : State) : Host.Outcome State Fault Refusal :=
  complete 1 11 (fun s => s.callTo (restartTarget 4)) s

/-- RST 5 (R207). -/
def execRst5 (s : State) : Host.Outcome State Fault Refusal :=
  complete 1 11 (fun s => s.callTo (restartTarget 5)) s

/-- RST 6 (R207). -/
def execRst6 (s : State) : Host.Outcome State Fault Refusal :=
  complete 1 11 (fun s => s.callTo (restartTarget 6)) s

/-- RST 7 (R207). -/
def execRst7 (s : State) : Host.Outcome State Fault Refusal :=
  complete 1 11 (fun s => s.callTo (restartTarget 7)) s

/-- PCHL (R208). -/
def execPchl (s : State) : Host.Outcome State Fault Refusal :=
  complete 1 5 (fun s => s.jumpTo s.hl) s

end Sys2Proof.Machine
end

