-- ==== Sys2Proof/Machine/DataTransfer.lean ====
section
/-! DEFINITION. Data transfer (spec 40_data_transfer.md). No instruction of this file writes a flag (R100).
One meaning per instruction. In each, the pc already holds `next` when the effect begins (00_scope.md R13); the two numbers are
the instruction's length in bytes and its cycle count (30_encoding.md R81, R87). -/

namespace Sys2Proof.Machine

/-- MOV B,B (R101). -/
def execMovBB (s : State) : Host.Outcome State Fault Refusal :=
  complete 1 5 (fun s => s.dst8 (.reg .b) (s.src8 (.reg .b))) s

/-- MOV B,C (R101). -/
def execMovBC (s : State) : Host.Outcome State Fault Refusal :=
  complete 1 5 (fun s => s.dst8 (.reg .b) (s.src8 (.reg .c))) s

/-- MOV B,D (R101). -/
def execMovBD (s : State) : Host.Outcome State Fault Refusal :=
  complete 1 5 (fun s => s.dst8 (.reg .b) (s.src8 (.reg .d))) s

/-- MOV B,E (R101). -/
def execMovBE (s : State) : Host.Outcome State Fault Refusal :=
  complete 1 5 (fun s => s.dst8 (.reg .b) (s.src8 (.reg .e))) s

/-- MOV B,H (R101). -/
def execMovBH (s : State) : Host.Outcome State Fault Refusal :=
  complete 1 5 (fun s => s.dst8 (.reg .b) (s.src8 (.reg .h))) s

/-- MOV B,L (R101). -/
def execMovBL (s : State) : Host.Outcome State Fault Refusal :=
  complete 1 5 (fun s => s.dst8 (.reg .b) (s.src8 (.reg .l))) s

/-- MOV B,A (R101). -/
def execMovBA (s : State) : Host.Outcome State Fault Refusal :=
  complete 1 5 (fun s => s.dst8 (.reg .b) (s.src8 (.reg .a))) s

/-- MOV C,B (R101). -/
def execMovCB (s : State) : Host.Outcome State Fault Refusal :=
  complete 1 5 (fun s => s.dst8 (.reg .c) (s.src8 (.reg .b))) s

/-- MOV C,C (R101). -/
def execMovCC (s : State) : Host.Outcome State Fault Refusal :=
  complete 1 5 (fun s => s.dst8 (.reg .c) (s.src8 (.reg .c))) s

/-- MOV C,D (R101). -/
def execMovCD (s : State) : Host.Outcome State Fault Refusal :=
  complete 1 5 (fun s => s.dst8 (.reg .c) (s.src8 (.reg .d))) s

/-- MOV C,E (R101). -/
def execMovCE (s : State) : Host.Outcome State Fault Refusal :=
  complete 1 5 (fun s => s.dst8 (.reg .c) (s.src8 (.reg .e))) s

/-- MOV C,H (R101). -/
def execMovCH (s : State) : Host.Outcome State Fault Refusal :=
  complete 1 5 (fun s => s.dst8 (.reg .c) (s.src8 (.reg .h))) s

/-- MOV C,L (R101). -/
def execMovCL (s : State) : Host.Outcome State Fault Refusal :=
  complete 1 5 (fun s => s.dst8 (.reg .c) (s.src8 (.reg .l))) s

/-- MOV C,A (R101). -/
def execMovCA (s : State) : Host.Outcome State Fault Refusal :=
  complete 1 5 (fun s => s.dst8 (.reg .c) (s.src8 (.reg .a))) s

/-- MOV D,B (R101). -/
def execMovDB (s : State) : Host.Outcome State Fault Refusal :=
  complete 1 5 (fun s => s.dst8 (.reg .d) (s.src8 (.reg .b))) s

/-- MOV D,C (R101). -/
def execMovDC (s : State) : Host.Outcome State Fault Refusal :=
  complete 1 5 (fun s => s.dst8 (.reg .d) (s.src8 (.reg .c))) s

/-- MOV D,D (R101). -/
def execMovDD (s : State) : Host.Outcome State Fault Refusal :=
  complete 1 5 (fun s => s.dst8 (.reg .d) (s.src8 (.reg .d))) s

/-- MOV D,E (R101). -/
def execMovDE (s : State) : Host.Outcome State Fault Refusal :=
  complete 1 5 (fun s => s.dst8 (.reg .d) (s.src8 (.reg .e))) s

/-- MOV D,H (R101). -/
def execMovDH (s : State) : Host.Outcome State Fault Refusal :=
  complete 1 5 (fun s => s.dst8 (.reg .d) (s.src8 (.reg .h))) s

/-- MOV D,L (R101). -/
def execMovDL (s : State) : Host.Outcome State Fault Refusal :=
  complete 1 5 (fun s => s.dst8 (.reg .d) (s.src8 (.reg .l))) s

/-- MOV D,A (R101). -/
def execMovDA (s : State) : Host.Outcome State Fault Refusal :=
  complete 1 5 (fun s => s.dst8 (.reg .d) (s.src8 (.reg .a))) s

/-- MOV E,B (R101). -/
def execMovEB (s : State) : Host.Outcome State Fault Refusal :=
  complete 1 5 (fun s => s.dst8 (.reg .e) (s.src8 (.reg .b))) s

/-- MOV E,C (R101). -/
def execMovEC (s : State) : Host.Outcome State Fault Refusal :=
  complete 1 5 (fun s => s.dst8 (.reg .e) (s.src8 (.reg .c))) s

/-- MOV E,D (R101). -/
def execMovED (s : State) : Host.Outcome State Fault Refusal :=
  complete 1 5 (fun s => s.dst8 (.reg .e) (s.src8 (.reg .d))) s

/-- MOV E,E (R101). -/
def execMovEE (s : State) : Host.Outcome State Fault Refusal :=
  complete 1 5 (fun s => s.dst8 (.reg .e) (s.src8 (.reg .e))) s

/-- MOV E,H (R101). -/
def execMovEH (s : State) : Host.Outcome State Fault Refusal :=
  complete 1 5 (fun s => s.dst8 (.reg .e) (s.src8 (.reg .h))) s

/-- MOV E,L (R101). -/
def execMovEL (s : State) : Host.Outcome State Fault Refusal :=
  complete 1 5 (fun s => s.dst8 (.reg .e) (s.src8 (.reg .l))) s

/-- MOV E,A (R101). -/
def execMovEA (s : State) : Host.Outcome State Fault Refusal :=
  complete 1 5 (fun s => s.dst8 (.reg .e) (s.src8 (.reg .a))) s

/-- MOV H,B (R101). -/
def execMovHB (s : State) : Host.Outcome State Fault Refusal :=
  complete 1 5 (fun s => s.dst8 (.reg .h) (s.src8 (.reg .b))) s

/-- MOV H,C (R101). -/
def execMovHC (s : State) : Host.Outcome State Fault Refusal :=
  complete 1 5 (fun s => s.dst8 (.reg .h) (s.src8 (.reg .c))) s

/-- MOV H,D (R101). -/
def execMovHD (s : State) : Host.Outcome State Fault Refusal :=
  complete 1 5 (fun s => s.dst8 (.reg .h) (s.src8 (.reg .d))) s

/-- MOV H,E (R101). -/
def execMovHE (s : State) : Host.Outcome State Fault Refusal :=
  complete 1 5 (fun s => s.dst8 (.reg .h) (s.src8 (.reg .e))) s

/-- MOV H,H (R101). -/
def execMovHH (s : State) : Host.Outcome State Fault Refusal :=
  complete 1 5 (fun s => s.dst8 (.reg .h) (s.src8 (.reg .h))) s

/-- MOV H,L (R101). -/
def execMovHL (s : State) : Host.Outcome State Fault Refusal :=
  complete 1 5 (fun s => s.dst8 (.reg .h) (s.src8 (.reg .l))) s

/-- MOV H,A (R101). -/
def execMovHA (s : State) : Host.Outcome State Fault Refusal :=
  complete 1 5 (fun s => s.dst8 (.reg .h) (s.src8 (.reg .a))) s

/-- MOV L,B (R101). -/
def execMovLB (s : State) : Host.Outcome State Fault Refusal :=
  complete 1 5 (fun s => s.dst8 (.reg .l) (s.src8 (.reg .b))) s

/-- MOV L,C (R101). -/
def execMovLC (s : State) : Host.Outcome State Fault Refusal :=
  complete 1 5 (fun s => s.dst8 (.reg .l) (s.src8 (.reg .c))) s

/-- MOV L,D (R101). -/
def execMovLD (s : State) : Host.Outcome State Fault Refusal :=
  complete 1 5 (fun s => s.dst8 (.reg .l) (s.src8 (.reg .d))) s

/-- MOV L,E (R101). -/
def execMovLE (s : State) : Host.Outcome State Fault Refusal :=
  complete 1 5 (fun s => s.dst8 (.reg .l) (s.src8 (.reg .e))) s

/-- MOV L,H (R101). -/
def execMovLH (s : State) : Host.Outcome State Fault Refusal :=
  complete 1 5 (fun s => s.dst8 (.reg .l) (s.src8 (.reg .h))) s

/-- MOV L,L (R101). -/
def execMovLL (s : State) : Host.Outcome State Fault Refusal :=
  complete 1 5 (fun s => s.dst8 (.reg .l) (s.src8 (.reg .l))) s

/-- MOV L,A (R101). -/
def execMovLA (s : State) : Host.Outcome State Fault Refusal :=
  complete 1 5 (fun s => s.dst8 (.reg .l) (s.src8 (.reg .a))) s

/-- MOV A,B (R101). -/
def execMovAB (s : State) : Host.Outcome State Fault Refusal :=
  complete 1 5 (fun s => s.dst8 (.reg .a) (s.src8 (.reg .b))) s

/-- MOV A,C (R101). -/
def execMovAC (s : State) : Host.Outcome State Fault Refusal :=
  complete 1 5 (fun s => s.dst8 (.reg .a) (s.src8 (.reg .c))) s

/-- MOV A,D (R101). -/
def execMovAD (s : State) : Host.Outcome State Fault Refusal :=
  complete 1 5 (fun s => s.dst8 (.reg .a) (s.src8 (.reg .d))) s

/-- MOV A,E (R101). -/
def execMovAE (s : State) : Host.Outcome State Fault Refusal :=
  complete 1 5 (fun s => s.dst8 (.reg .a) (s.src8 (.reg .e))) s

/-- MOV A,H (R101). -/
def execMovAH (s : State) : Host.Outcome State Fault Refusal :=
  complete 1 5 (fun s => s.dst8 (.reg .a) (s.src8 (.reg .h))) s

/-- MOV A,L (R101). -/
def execMovAL (s : State) : Host.Outcome State Fault Refusal :=
  complete 1 5 (fun s => s.dst8 (.reg .a) (s.src8 (.reg .l))) s

/-- MOV A,A (R101). -/
def execMovAA (s : State) : Host.Outcome State Fault Refusal :=
  complete 1 5 (fun s => s.dst8 (.reg .a) (s.src8 (.reg .a))) s

/-- MOV B,M (R102). -/
def execMovBM (s : State) : Host.Outcome State Fault Refusal :=
  complete 1 7 (fun s => s.dst8 (.reg .b) (s.src8 .m)) s

/-- MOV C,M (R102). -/
def execMovCM (s : State) : Host.Outcome State Fault Refusal :=
  complete 1 7 (fun s => s.dst8 (.reg .c) (s.src8 .m)) s

/-- MOV D,M (R102). -/
def execMovDM (s : State) : Host.Outcome State Fault Refusal :=
  complete 1 7 (fun s => s.dst8 (.reg .d) (s.src8 .m)) s

/-- MOV E,M (R102). -/
def execMovEM (s : State) : Host.Outcome State Fault Refusal :=
  complete 1 7 (fun s => s.dst8 (.reg .e) (s.src8 .m)) s

/-- MOV H,M (R102). DEDUCED: 30_encoding.md R76 says that no instruction that uses M writes H or L, but R81 lists this one and R102
says what it does: memory is read at the old HL, then H is written (assumption log 21). -/
def execMovHM (s : State) : Host.Outcome State Fault Refusal :=
  complete 1 7 (fun s => s.dst8 (.reg .h) (s.src8 .m)) s

/-- MOV L,M (R102). DEDUCED: 30_encoding.md R76 says that no instruction that uses M writes H or L, but R81 lists this one and R102
says what it does: memory is read at the old HL, then L is written (assumption log 21). -/
def execMovLM (s : State) : Host.Outcome State Fault Refusal :=
  complete 1 7 (fun s => s.dst8 (.reg .l) (s.src8 .m)) s

/-- MOV A,M (R102). -/
def execMovAM (s : State) : Host.Outcome State Fault Refusal :=
  complete 1 7 (fun s => s.dst8 (.reg .a) (s.src8 .m)) s

/-- MOV M,B (R103). -/
def execMovMB (s : State) : Host.Outcome State Fault Refusal :=
  complete 1 7 (fun s => s.dst8 .m (s.src8 (.reg .b))) s

/-- MOV M,C (R103). -/
def execMovMC (s : State) : Host.Outcome State Fault Refusal :=
  complete 1 7 (fun s => s.dst8 .m (s.src8 (.reg .c))) s

/-- MOV M,D (R103). -/
def execMovMD (s : State) : Host.Outcome State Fault Refusal :=
  complete 1 7 (fun s => s.dst8 .m (s.src8 (.reg .d))) s

/-- MOV M,E (R103). -/
def execMovME (s : State) : Host.Outcome State Fault Refusal :=
  complete 1 7 (fun s => s.dst8 .m (s.src8 (.reg .e))) s

/-- MOV M,H (R103). -/
def execMovMH (s : State) : Host.Outcome State Fault Refusal :=
  complete 1 7 (fun s => s.dst8 .m (s.src8 (.reg .h))) s

/-- MOV M,L (R103). -/
def execMovML (s : State) : Host.Outcome State Fault Refusal :=
  complete 1 7 (fun s => s.dst8 .m (s.src8 (.reg .l))) s

/-- MOV M,A (R103). -/
def execMovMA (s : State) : Host.Outcome State Fault Refusal :=
  complete 1 7 (fun s => s.dst8 .m (s.src8 (.reg .a))) s

/-- MVI B,d8 (R104). -/
def execMviB (d8 : Byte) (s : State) : Host.Outcome State Fault Refusal :=
  complete 2 7 (fun s => s.dst8 (.reg .b) d8) s

/-- MVI C,d8 (R104). -/
def execMviC (d8 : Byte) (s : State) : Host.Outcome State Fault Refusal :=
  complete 2 7 (fun s => s.dst8 (.reg .c) d8) s

/-- MVI D,d8 (R104). -/
def execMviD (d8 : Byte) (s : State) : Host.Outcome State Fault Refusal :=
  complete 2 7 (fun s => s.dst8 (.reg .d) d8) s

/-- MVI E,d8 (R104). -/
def execMviE (d8 : Byte) (s : State) : Host.Outcome State Fault Refusal :=
  complete 2 7 (fun s => s.dst8 (.reg .e) d8) s

/-- MVI H,d8 (R104). -/
def execMviH (d8 : Byte) (s : State) : Host.Outcome State Fault Refusal :=
  complete 2 7 (fun s => s.dst8 (.reg .h) d8) s

/-- MVI L,d8 (R104). -/
def execMviL (d8 : Byte) (s : State) : Host.Outcome State Fault Refusal :=
  complete 2 7 (fun s => s.dst8 (.reg .l) d8) s

/-- MVI A,d8 (R104). -/
def execMviA (d8 : Byte) (s : State) : Host.Outcome State Fault Refusal :=
  complete 2 7 (fun s => s.dst8 (.reg .a) d8) s

/-- MVI M,d8 (R105). -/
def execMviM (d8 : Byte) (s : State) : Host.Outcome State Fault Refusal :=
  complete 2 10 (fun s => s.dst8 .m d8) s

/-- LXI B,d16 (R106). -/
def execLxiB (d16 : Word) (s : State) : Host.Outcome State Fault Refusal :=
  complete 3 10 (fun s => s.setRp .bc d16) s

/-- LXI D,d16 (R106). -/
def execLxiD (d16 : Word) (s : State) : Host.Outcome State Fault Refusal :=
  complete 3 10 (fun s => s.setRp .de d16) s

/-- LXI H,d16 (R106). -/
def execLxiH (d16 : Word) (s : State) : Host.Outcome State Fault Refusal :=
  complete 3 10 (fun s => s.setRp .hl d16) s

/-- LXI SP,d16 (R106). -/
def execLxiSP (d16 : Word) (s : State) : Host.Outcome State Fault Refusal :=
  complete 3 10 (fun s => s.setRp .sp d16) s

/-- LDA a16 (R107). -/
def execLda (a16 : Word) (s : State) : Host.Outcome State Fault Refusal :=
  complete 3 13 (fun s => s.setReg .a (s.memRead a16)) s

/-- STA a16 (R108). -/
def execSta (a16 : Word) (s : State) : Host.Outcome State Fault Refusal :=
  complete 3 13 (fun s => s.memWrite a16 s.a) s

/-- LHLD a16 (R109). -/
def execLhld (a16 : Word) (s : State) : Host.Outcome State Fault Refusal :=
  complete 3 16 (fun s => s.setRp .hl (s.mem.read16 a16)) s

/-- SHLD a16 (R110). -/
def execShld (a16 : Word) (s : State) : Host.Outcome State Fault Refusal :=
  complete 3 16 (fun s => { s with mem := s.mem.write16 a16 s.hl }) s

/-- LDAX B (R111). -/
def execLdaxB (s : State) : Host.Outcome State Fault Refusal :=
  complete 1 7 (fun s => s.setReg .a (s.memRead (s.getRp .bc))) s

/-- LDAX D (R111). -/
def execLdaxD (s : State) : Host.Outcome State Fault Refusal :=
  complete 1 7 (fun s => s.setReg .a (s.memRead (s.getRp .de))) s

/-- STAX B (R112). -/
def execStaxB (s : State) : Host.Outcome State Fault Refusal :=
  complete 1 7 (fun s => s.memWrite (s.getRp .bc) s.a) s

/-- STAX D (R112). -/
def execStaxD (s : State) : Host.Outcome State Fault Refusal :=
  complete 1 7 (fun s => s.memWrite (s.getRp .de) s.a) s

/-- XCHG (R113). -/
def execXchg (s : State) : Host.Outcome State Fault Refusal :=
  complete 1 4 (fun s => (s.setRp .hl (s.getRp .de)).setRp .de (s.getRp .hl)) s

end Sys2Proof.Machine
end

