-- ==== Sys2Proof/Machine/IoControl.lean ====
section
/-! DEFINITION. I/O and control instructions (spec 45_io_control.md).
One meaning per instruction. In each, the pc already holds `next` when the effect begins (00_scope.md R13); the two numbers are
the instruction's length in bytes and its cycle count (30_encoding.md R81, R87). -/

namespace Sys2Proof.Machine

/-- IN p8 (R240). -/
def execInPort (p8 : Byte) (s : State) : Host.Outcome State Fault Refusal :=
  complete 2 10 (fun s => (s.portIn p8).setReg .a (s.portAnswer p8)) s

/-- OUT p8 (R241). -/
def execOutPort (p8 : Byte) (s : State) : Host.Outcome State Fault Refusal :=
  complete 2 10 (fun s => s.portOut p8 s.a) s

/-- EI (R242). -/
def execEi (s : State) : Host.Outcome State Fault Refusal :=
  complete 1 4 (fun s => { s with inte := true }) s

/-- DI (R243). -/
def execDi (s : State) : Host.Outcome State Fault Refusal :=
  complete 1 4 (fun s => { s with inte := false }) s

/-- HLT (R244). -/
def execHlt (s : State) : Host.Outcome State Fault Refusal :=
  complete 1 7 (fun s => { s with halted := true }) s

/-- NOP (R245). -/
def execNop (s : State) : Host.Outcome State Fault Refusal :=
  complete 1 4 (fun s => s) s

end Sys2Proof.Machine
end

