-- ==== Sys2Proof/Machine/Logical.lean ====
section
/-! DEFINITION. Logical, compare, rotate and carry instructions (spec 42_logical.md).
One meaning per instruction. In each, the pc already holds `next` when the effect begins (00_scope.md R13); the two numbers are
the instruction's length in bytes and its cycle count (30_encoding.md R81, R87). -/

namespace Sys2Proof.Machine

/-- ANA B (R171). -/
def execAnaB (s : State) : Host.Outcome State Fault Refusal :=
  complete 1 4 (fun s => s.andA (s.src8 (.reg .b))) s

/-- ANA C (R171). -/
def execAnaC (s : State) : Host.Outcome State Fault Refusal :=
  complete 1 4 (fun s => s.andA (s.src8 (.reg .c))) s

/-- ANA D (R171). -/
def execAnaD (s : State) : Host.Outcome State Fault Refusal :=
  complete 1 4 (fun s => s.andA (s.src8 (.reg .d))) s

/-- ANA E (R171). -/
def execAnaE (s : State) : Host.Outcome State Fault Refusal :=
  complete 1 4 (fun s => s.andA (s.src8 (.reg .e))) s

/-- ANA H (R171). -/
def execAnaH (s : State) : Host.Outcome State Fault Refusal :=
  complete 1 4 (fun s => s.andA (s.src8 (.reg .h))) s

/-- ANA L (R171). -/
def execAnaL (s : State) : Host.Outcome State Fault Refusal :=
  complete 1 4 (fun s => s.andA (s.src8 (.reg .l))) s

/-- ANA A (R171). -/
def execAnaA (s : State) : Host.Outcome State Fault Refusal :=
  complete 1 4 (fun s => s.andA (s.src8 (.reg .a))) s

/-- ANA M (R172). -/
def execAnaM (s : State) : Host.Outcome State Fault Refusal :=
  complete 1 7 (fun s => s.andA (s.src8 .m)) s

/-- ANI d8 (R173). -/
def execAni (d8 : Byte) (s : State) : Host.Outcome State Fault Refusal :=
  complete 2 7 (fun s => s.andA d8) s

/-- XRA B (R174). -/
def execXraB (s : State) : Host.Outcome State Fault Refusal :=
  complete 1 4 (fun s => s.xorA (s.src8 (.reg .b))) s

/-- XRA C (R174). -/
def execXraC (s : State) : Host.Outcome State Fault Refusal :=
  complete 1 4 (fun s => s.xorA (s.src8 (.reg .c))) s

/-- XRA D (R174). -/
def execXraD (s : State) : Host.Outcome State Fault Refusal :=
  complete 1 4 (fun s => s.xorA (s.src8 (.reg .d))) s

/-- XRA E (R174). -/
def execXraE (s : State) : Host.Outcome State Fault Refusal :=
  complete 1 4 (fun s => s.xorA (s.src8 (.reg .e))) s

/-- XRA H (R174). -/
def execXraH (s : State) : Host.Outcome State Fault Refusal :=
  complete 1 4 (fun s => s.xorA (s.src8 (.reg .h))) s

/-- XRA L (R174). -/
def execXraL (s : State) : Host.Outcome State Fault Refusal :=
  complete 1 4 (fun s => s.xorA (s.src8 (.reg .l))) s

/-- XRA A (R174). -/
def execXraA (s : State) : Host.Outcome State Fault Refusal :=
  complete 1 4 (fun s => s.xorA (s.src8 (.reg .a))) s

/-- XRA M (R175). -/
def execXraM (s : State) : Host.Outcome State Fault Refusal :=
  complete 1 7 (fun s => s.xorA (s.src8 .m)) s

/-- XRI d8 (R176). -/
def execXri (d8 : Byte) (s : State) : Host.Outcome State Fault Refusal :=
  complete 2 7 (fun s => s.xorA d8) s

/-- ORA B (R177). -/
def execOraB (s : State) : Host.Outcome State Fault Refusal :=
  complete 1 4 (fun s => s.orA (s.src8 (.reg .b))) s

/-- ORA C (R177). -/
def execOraC (s : State) : Host.Outcome State Fault Refusal :=
  complete 1 4 (fun s => s.orA (s.src8 (.reg .c))) s

/-- ORA D (R177). -/
def execOraD (s : State) : Host.Outcome State Fault Refusal :=
  complete 1 4 (fun s => s.orA (s.src8 (.reg .d))) s

/-- ORA E (R177). -/
def execOraE (s : State) : Host.Outcome State Fault Refusal :=
  complete 1 4 (fun s => s.orA (s.src8 (.reg .e))) s

/-- ORA H (R177). -/
def execOraH (s : State) : Host.Outcome State Fault Refusal :=
  complete 1 4 (fun s => s.orA (s.src8 (.reg .h))) s

/-- ORA L (R177). -/
def execOraL (s : State) : Host.Outcome State Fault Refusal :=
  complete 1 4 (fun s => s.orA (s.src8 (.reg .l))) s

/-- ORA A (R177). -/
def execOraA (s : State) : Host.Outcome State Fault Refusal :=
  complete 1 4 (fun s => s.orA (s.src8 (.reg .a))) s

/-- ORA M (R178). -/
def execOraM (s : State) : Host.Outcome State Fault Refusal :=
  complete 1 7 (fun s => s.orA (s.src8 .m)) s

/-- ORI d8 (R179). -/
def execOri (d8 : Byte) (s : State) : Host.Outcome State Fault Refusal :=
  complete 2 7 (fun s => s.orA d8) s

/-- CMP B (R180). -/
def execCmpB (s : State) : Host.Outcome State Fault Refusal :=
  complete 1 4 (fun s => s.cmpA (s.src8 (.reg .b))) s

/-- CMP C (R180). -/
def execCmpC (s : State) : Host.Outcome State Fault Refusal :=
  complete 1 4 (fun s => s.cmpA (s.src8 (.reg .c))) s

/-- CMP D (R180). -/
def execCmpD (s : State) : Host.Outcome State Fault Refusal :=
  complete 1 4 (fun s => s.cmpA (s.src8 (.reg .d))) s

/-- CMP E (R180). -/
def execCmpE (s : State) : Host.Outcome State Fault Refusal :=
  complete 1 4 (fun s => s.cmpA (s.src8 (.reg .e))) s

/-- CMP H (R180). -/
def execCmpH (s : State) : Host.Outcome State Fault Refusal :=
  complete 1 4 (fun s => s.cmpA (s.src8 (.reg .h))) s

/-- CMP L (R180). -/
def execCmpL (s : State) : Host.Outcome State Fault Refusal :=
  complete 1 4 (fun s => s.cmpA (s.src8 (.reg .l))) s

/-- CMP A (R180). -/
def execCmpA (s : State) : Host.Outcome State Fault Refusal :=
  complete 1 4 (fun s => s.cmpA (s.src8 (.reg .a))) s

/-- CMP M (R181). -/
def execCmpM (s : State) : Host.Outcome State Fault Refusal :=
  complete 1 7 (fun s => s.cmpA (s.src8 .m)) s

/-- CPI d8 (R182). -/
def execCpi (d8 : Byte) (s : State) : Host.Outcome State Fault Refusal :=
  complete 2 7 (fun s => s.cmpA d8) s

/-- RLC (R183). -/
def execRlc (s : State) : Host.Outcome State Fault Refusal :=
  complete 1 4 (fun s => s.rlc) s

/-- RRC (R184). -/
def execRrc (s : State) : Host.Outcome State Fault Refusal :=
  complete 1 4 (fun s => s.rrc) s

/-- RAL (R185). -/
def execRal (s : State) : Host.Outcome State Fault Refusal :=
  complete 1 4 (fun s => s.ral) s

/-- RAR (R186). -/
def execRar (s : State) : Host.Outcome State Fault Refusal :=
  complete 1 4 (fun s => s.rar) s

/-- CMA (R187). -/
def execCma (s : State) : Host.Outcome State Fault Refusal :=
  complete 1 4 (fun s => { s with a := ~~~s.a }) s

/-- CMC (R188). -/
def execCmc (s : State) : Host.Outcome State Fault Refusal :=
  complete 1 4 (fun s => s.setCy (!s.flags.cy)) s

/-- STC (R189). -/
def execStc (s : State) : Host.Outcome State Fault Refusal :=
  complete 1 4 (fun s => s.setCy true) s

end Sys2Proof.Machine
end

