-- ==== Sys2Proof/Machine/Stack.lean ====
section
/-! DEFINITION. Stack instructions (spec 44_stack.md).
One meaning per instruction. In each, the pc already holds `next` when the effect begins (00_scope.md R13); the two numbers are
the instruction's length in bytes and its cycle count (30_encoding.md R81, R87). -/

namespace Sys2Proof.Machine

/-- PUSH B (R222). -/
def execPushB (s : State) : Host.Outcome State Fault Refusal :=
  complete 1 11 (fun s => s.push16 (s.getRp .bc)) s

/-- PUSH D (R222). -/
def execPushD (s : State) : Host.Outcome State Fault Refusal :=
  complete 1 11 (fun s => s.push16 (s.getRp .de)) s

/-- PUSH H (R222). -/
def execPushH (s : State) : Host.Outcome State Fault Refusal :=
  complete 1 11 (fun s => s.push16 (s.getRp .hl)) s

/-- PUSH PSW (R223). -/
def execPushPSW (s : State) : Host.Outcome State Fault Refusal :=
  complete 1 11 (fun s => s.push16 s.psw) s

/-- POP B (R224). -/
def execPopB (s : State) : Host.Outcome State Fault Refusal :=
  complete 1 10 (fun s => s.dropTop.setRp .bc s.stackTop) s

/-- POP D (R224). -/
def execPopD (s : State) : Host.Outcome State Fault Refusal :=
  complete 1 10 (fun s => s.dropTop.setRp .de s.stackTop) s

/-- POP H (R224). -/
def execPopH (s : State) : Host.Outcome State Fault Refusal :=
  complete 1 10 (fun s => s.dropTop.setRp .hl s.stackTop) s

/-- POP PSW (R225). -/
def execPopPSW (s : State) : Host.Outcome State Fault Refusal :=
  complete 1 10 (fun s => s.dropTop.setPsw s.stackTop) s

/-- XTHL (R226). -/
def execXthl (s : State) : Host.Outcome State Fault Refusal :=
  complete 1 18 (fun s => { s with mem := s.mem.write16 s.sp s.hl }.setRp .hl s.stackTop) s

/-- SPHL (R227). -/
def execSphl (s : State) : Host.Outcome State Fault Refusal :=
  complete 1 5 (fun s => s.setRp .sp s.hl) s

end Sys2Proof.Machine
end

