-- ==== Sys2Proof/Machine/Undefined.lean ====
section
/-! DEFINITION. The twelve undefined opcodes under the three values of `UNDEF_POLICY` (spec 45_io_control.md R246; 30_encoding.md
R82). Each gives the instruction that the silicon runs for it: NOP (R245), JMP a16 (R201), RET (R205), CALL a16 (R203).
One meaning per opcode; the two numbers are the alias's length in bytes and its cycle count (30_encoding.md R81, R87). -/

namespace Sys2Proof.Machine

/-- Undefined opcode 0x08, alias NOP (R246). -/
def execUndef08 (s : State) : Host.Outcome State Fault Refusal :=
  undefinedOpcode 0x08 (complete 1 4 id) s

/-- Undefined opcode 0x10, alias NOP (R246). -/
def execUndef10 (s : State) : Host.Outcome State Fault Refusal :=
  undefinedOpcode 0x10 (complete 1 4 id) s

/-- Undefined opcode 0x18, alias NOP (R246). -/
def execUndef18 (s : State) : Host.Outcome State Fault Refusal :=
  undefinedOpcode 0x18 (complete 1 4 id) s

/-- Undefined opcode 0x20, alias NOP (R246). -/
def execUndef20 (s : State) : Host.Outcome State Fault Refusal :=
  undefinedOpcode 0x20 (complete 1 4 id) s

/-- Undefined opcode 0x28, alias NOP (R246). -/
def execUndef28 (s : State) : Host.Outcome State Fault Refusal :=
  undefinedOpcode 0x28 (complete 1 4 id) s

/-- Undefined opcode 0x30, alias NOP (R246). -/
def execUndef30 (s : State) : Host.Outcome State Fault Refusal :=
  undefinedOpcode 0x30 (complete 1 4 id) s

/-- Undefined opcode 0x38, alias NOP (R246). -/
def execUndef38 (s : State) : Host.Outcome State Fault Refusal :=
  undefinedOpcode 0x38 (complete 1 4 id) s

/-- Undefined opcode 0xCB, alias JMP a16 (R246). -/
def execUndefCB (a16 : Word) (s : State) : Host.Outcome State Fault Refusal :=
  undefinedOpcode 0xCB (complete 3 10 (fun s => s.jumpTo a16)) s

/-- Undefined opcode 0xD9, alias RET (R246). -/
def execUndefD9 (s : State) : Host.Outcome State Fault Refusal :=
  undefinedOpcode 0xD9 (complete 1 10 State.returnFrom) s

/-- Undefined opcode 0xDD, alias CALL a16 (R246). -/
def execUndefDD (a16 : Word) (s : State) : Host.Outcome State Fault Refusal :=
  undefinedOpcode 0xDD (complete 3 17 (fun s => s.callTo a16)) s

/-- Undefined opcode 0xED, alias CALL a16 (R246). -/
def execUndefED (a16 : Word) (s : State) : Host.Outcome State Fault Refusal :=
  undefinedOpcode 0xED (complete 3 17 (fun s => s.callTo a16)) s

/-- Undefined opcode 0xFD, alias CALL a16 (R246). -/
def execUndefFD (a16 : Word) (s : State) : Host.Outcome State Fault Refusal :=
  undefinedOpcode 0xFD (complete 3 17 (fun s => s.callTo a16)) s

end Sys2Proof.Machine
end

