-- ==== Sys2Proof/Machine/Step.lean ====
section
/-! DEFINITION. One `step()` of the core (spec 30_encoding.md R74): a faulted session answers its fault again (60_exceptions.md
R262), a halted processor idles (R88), and otherwise the instruction at the pc is fetched and runs. Interrupts are not tested
here: the host calls `raiseInterrupt()` between steps (R74; Machine/Session.lean). -/

namespace Sys2Proof.Machine

def step (s : State) : Host.Outcome State Fault Refusal :=
  match s.faulted with
  | some f => .fault (.decodeFault f.opcode f.addr)
  | none => if s.halted then .next s.idle else exec s.fetch s

/-- `s` with an instruction of `nbits` bits `w` stored where `step` fetches its next instruction: its three bytes, those above
`nbits` zero, at pc, pc + 1 and pc + 2. The marks that keep a step from fetching are taken off (assumption logs 15 and 17). -/
def State.withFetchWord (s : State) (nbits w : Nat) : State :=
  { s with
    mem := ((s.mem.write s.pc (tableByte nbits w 0)).write (s.pc + 1) (tableByte nbits w 1)).write (s.pc + 2) (tableByte nbits w 2)
    halted := false
    faulted := none }

end Sys2Proof.Machine
end

