-- ==== Sys2Proof/Machine/Session.lean ====
section
/-! DEFINITION. A session as its host drives it: reset with the host's launch inputs (spec 70_reset_and_hazards.md R290, R291),
and the host's calls between steps (60_exceptions.md R278; 10_state.md R37). -/

namespace Sys2Proof.Machine

/-- The state that a reset constructs (70_reset_and_hazards.md R290): `INIT_MEM` everywhere, then the image, then every other
element from 10_state.md R38. -/
def State.ofLaunch (x : Launch) : State :=
  { State.reset with
    pc := x.entry
    sp := x.spInit
    mem := (Memory.canonical x.initMem).loadImage x.imageBase x.image
    params := x.params
    portAnswers := x.answers }

/-- Reset. An image of more than 65,536 bytes is refused (70_reset_and_hazards.md R291). -/
def launch (x : Launch) : Host.Outcome State Fault Refusal :=
  if x.image.length ≤ 65536 then .next (State.ofLaunch x) else .refused (.oversizeImage x.image.length)

/-- The names of the five flags, for the host's flag accessor. -/
inductive FlagName where
  | z | s | p | cy | ac
deriving DecidableEq, Repr

/-- A write of one flag. -/
def Flags.set (f : Flags) (n : FlagName) (x : Bool) : Flags :=
  match n with
  | .z => { f with z := x }
  | .s => { f with s := x }
  | .p => { f with p := x }
  | .cy => { f with cy := x }
  | .ac => { f with ac := x }

/-- What a host may do between steps (60_exceptions.md R278; 10_state.md R37). Accessor reads are the fields of State and have
no effect; there is no write of `INTE`, `halted` or `faulted` (decision D17; assumption log 18). -/
inductive HostCall where
  /-- `step()` -/
  | step
  /-- `raiseInterrupt()` -/
  | raiseInterrupt
  | writeReg (r : Reg) (v : Byte)
  /-- a pair, both halves, or sp -/
  | writeRp (rp : Rp) (v : Word)
  | writeFlag (n : FlagName) (x : Bool)
  | writePc (v : Word)
  | writeMem (a : Word) (v : Byte)
  /-- The host settles what its next `portIn` answers will be (45_io_control.md R247). -/
  | answer (vs : List Byte)
  /-- reset, also the "external reset" (70_reset_and_hazards.md R292): a new session. Its port calls are counted from 0 again,
  which ties its free port answers to the old session's (assumption log 20); `Launch.answers` gives it answers of its own. -/
  | reset (x : Launch)
deriving DecidableEq, Repr

/-- The effect of one host call. -/
def hostCall (call : HostCall) (s : State) : Host.Outcome State Fault Refusal :=
  match call with
  | .step => Sys2Proof.Machine.step s
  | .raiseInterrupt => .next s.raiseInterrupt
  | .writeReg r v => .next (s.setReg r v)
  | .writeRp rp v => .next (s.setRp rp v)
  | .writeFlag n x => .next { s with flags := s.flags.set n x }
  | .writePc v => .next { s with pc := v }
  | .writeMem a v => .next (s.memWrite a v)
  | .answer vs => .next { s with portAnswers := s.portAnswers ++ vs }
  | .reset x => launch x

/-- A run of a session: the host's calls in order, up to the first that gives no next state. -/
def runCalls : List HostCall → State → Host.Outcome State Fault Refusal
  | [], s => .next s
  | call :: rest, s =>
    match hostCall call s with
    | .next t => runCalls rest t
    | .fault f => .fault f
    | .refused r => .refused r

end Sys2Proof.Machine
end

