-- ==== Sys2Proof/Safety.lean ====
section
/-! DEFINITION. What claims about runs are stated with: the invariants of the state, quiescence and the normal end (spec
70_reset_and_hazards.md R303), and sameness of two states up to what the last step returned. -/

namespace Sys2Proof.Machine

/-- The twelve undefined opcodes (30_encoding.md R82). -/
def undefinedOpcodes : List Byte :=
  [0x08, 0x10, 0x18, 0x20, 0x28, 0x30, 0x38, 0xCB, 0xD9, 0xDD, 0xED, 0xFD]

/-- Memory is in canonical form, and a fault mark is there only under the policy `fault`, with an undefined opcode. Every host
call keeps it. -/
structure State.Inv (s : State) : Prop where
  memory : s.mem.wf = true
  fault : ∀ f, s.faulted = some f → f.opcode ∈ undefinedOpcodes ∧ s.params.undefPolicy = .fault

/-- A decode fault is precise (60_exceptions.md R261, R270): while the mark is set, the pc is at the faulting opcode, which is
still the byte there, and the last step returned that fault. Steps and interrupt requests keep it. -/
def State.PreciseFault (s : State) : Prop :=
  ∀ f, s.faulted = some f → s.pc = f.addr ∧ s.mem.read f.addr = f.opcode ∧ s.lastReturn = .fault f

/-- Quiescent: faulted, or halted with interrupts disabled (70_reset_and_hazards.md R303). -/
def State.quiescent (s : State) : Bool := s.faulted.isSome || (s.halted && !s.inte)

/-- The normal end of a program: quiescent without a fault (70_reset_and_hazards.md R303). -/
def State.normalEnd (s : State) : Bool := s.quiescent && s.faulted.isNone

/-- The same state of the spec's machine: `t` differs from `s` at most in what the last `step()` returned, which the spec does
not count as state (10_state.md R36). -/
def State.SameAs (s t : State) : Prop := { t with lastReturn := s.lastReturn } = s

end Sys2Proof.Machine
end

