-- ==== Sys2Proof/Certificates/Slice0/Obligations.lean ====
section
/-! DEFINITION. The statements for the provers, from the numbered rules of spec/. Results are stated with numbers, bits and the
model's read of one byte; the tables below pair each opcode byte with its instruction and operands, so that a statement over a
table says of each instruction its encoding, its effect, its frame and its cycle count. In every statement of the form
"t = s with ...", whatever field is not named is unchanged. -/

namespace Sys2Proof.Claims
open Sys2Proof.Machine

/-! ## Words used in the statements -/

/-- An even number of 1 bits (00_scope.md R12). -/
def evenOnes (v : Byte) : Bool :=
  !(v.getLsbD 0 ^^ v.getLsbD 1 ^^ v.getLsbD 2 ^^ v.getLsbD 3 ^^ v.getLsbD 4 ^^ v.getLsbD 5 ^^ v.getLsbD 6 ^^ v.getLsbD 7)

/-- Z, S and P as a result gives them (10_state.md R26). -/
def ResultFlags (f : Flags) (res : Byte) : Prop :=
  f.z = decide (res.toNat = 0) ∧ f.s = decide (128 ≤ res.toNat) ∧ f.p = evenOnes res

/-- The 16-bit value `hi * 256 + lo` (00_scope.md R6). -/
def pairValue (hi lo : Byte) : Word := BitVec.ofNat 16 (hi.toNat * 256 + lo.toNat)

/-- The low byte of a word. -/
def lowOf (v : Word) : Byte := BitVec.ofNat 8 (v.toNat % 256)

/-- The high byte of a word. -/
def highOf (v : Word) : Byte := BitVec.ofNat 8 (v.toNat / 256)

/-- The address of the memory operand M (30_encoding.md R76). -/
def hlOf (s : State) : Word := pairValue s.h s.l

/-- The 16-bit value at `a`, little-endian, addresses wrapping (00_scope.md R9). -/
def wordAt (s : State) (a : Word) : Word := pairValue (s.mem.read (a + 1)) (s.mem.read a)

/-- From `s` to `t` one byte is stored, at `addr`, and no other byte of memory changes. -/
def StoresByte (s t : State) (addr : Word) (v : Byte) : Prop :=
  t.mem.read addr = v ∧ ∀ x, x ≠ addr → t.mem.read x = s.mem.read x

/-- From `s` to `t` two bytes are stored, the low one at `addr` and the high one at `addr + 1`, and no other byte changes. -/
def StoresWord (s t : State) (addr v : Word) : Prop :=
  t.mem.read addr = lowOf v ∧ t.mem.read (addr + 1) = highOf v ∧
    ∀ x, x ≠ addr → x ≠ addr + 1 → t.mem.read x = s.mem.read x

/-- The instruction answers a next state, moves past its `len` bytes, returns `cycles`, and meets `post`. -/
def Completes (i : Instr) (s : State) (len : Word) (cycles : Nat) (post : State → Prop) : Prop :=
  ∃ t, exec i s = .next t ∧ t.pc = s.pc + len ∧ t.lastReturn = .cycles cycles ∧ post t

/-- Nothing but general registers (and pc and the value returned) differs. -/
def OnlyRegisters (s t : State) : Prop :=
  t = { s with b := t.b, c := t.c, d := t.d, e := t.e, h := t.h, l := t.l, a := t.a, pc := t.pc, lastReturn := t.lastReturn }

/-- Nothing but A (and pc and the value returned) differs. -/
def OnlyA (s t : State) : Prop := t = { s with a := t.a, pc := t.pc, lastReturn := t.lastReturn }

/-- Nothing but A and the flags (and pc and the value returned) differs. -/
def OnlyAAndFlags (s t : State) : Prop :=
  t = { s with a := t.a, flags := t.flags, pc := t.pc, lastReturn := t.lastReturn }

/-- Nothing but memory (and pc and the value returned) differs. -/
def OnlyMemory (s t : State) : Prop := t = { s with mem := t.mem, pc := t.pc, lastReturn := t.lastReturn }

/-- Only the register `r` has a new value, `v`. -/
def SetsRegister (s t : State) (r : Reg) (v : Byte) : Prop := ∀ q, t.getReg q = if q = r then v else s.getReg q

/-- Only the pair `rp` (or sp) has a new value, `v`; A, flags, memory and the rest are unchanged. -/
def SetsPair (s t : State) (rp : Rp) (v : Word) : Prop :=
  (∀ q, t.getRp q = if q = rp then v else s.getRp q) ∧
  t = { s with b := t.b, c := t.c, d := t.d, e := t.e, h := t.h, l := t.l, sp := t.sp, pc := t.pc, lastReturn := t.lastReturn }

/-- The value of register `r`, as an operand. -/
def regOperand (r : Reg) (s : State) : Byte := s.getReg r

/-- The byte at HL, as an operand. -/
def mOperand (s : State) : Byte := s.mem.read (hlOf s)

/-- No carry or borrow comes in. -/
def noCarry (_ : State) : Nat := 0

/-- CY comes in. -/
def carryIn (s : State) : Nat := s.flags.cy.toNat

/-- An addition into A with all five flags (41_arithmetic.md R130, R132). -/
def AddsToA (i : Instr) (len : Word) (cycles : Nat) (v : State → Byte) (cin : State → Nat) : Prop :=
  ∀ s, Completes i s len cycles fun t =>
    t.a.toNat = (s.a.toNat + (v s).toNat + cin s) % 256 ∧
    ResultFlags t.flags t.a ∧
    t.flags.cy = decide (255 < s.a.toNat + (v s).toNat + cin s) ∧
    t.flags.ac = decide (15 < s.a.toNat % 16 + (v s).toNat % 16 + cin s) ∧
    OnlyAAndFlags s t

/-- A subtraction from A with all five flags: CY is the borrow, AC the carry out of bit 3 of the complemented addition
(41_arithmetic.md R131, R132). -/
def SubtractsFromA (i : Instr) (len : Word) (cycles : Nat) (v : State → Byte) (bin : State → Nat) : Prop :=
  ∀ s, Completes i s len cycles fun t =>
    t.a.toNat = (s.a.toNat + 256 - (v s).toNat - bin s) % 256 ∧
    ResultFlags t.flags t.a ∧
    t.flags.cy = decide (s.a.toNat < (v s).toNat + bin s) ∧
    t.flags.ac = decide ((v s).toNat % 16 + bin s ≤ s.a.toNat % 16) ∧
    OnlyAAndFlags s t

/-- The flags of a subtraction, A unchanged (42_logical.md R180). -/
def ComparesWithA (i : Instr) (len : Word) (cycles : Nat) (v : State → Byte) : Prop :=
  ∀ s, Completes i s len cycles fun t =>
    (∃ res : Byte, res.toNat = (s.a.toNat + 256 - (v s).toNat) % 256 ∧ ResultFlags t.flags res) ∧
    t.flags.cy = decide (s.a.toNat < (v s).toNat) ∧
    t.flags.ac = decide ((v s).toNat % 16 ≤ s.a.toNat % 16) ∧
    t = { s with flags := t.flags, pc := t.pc, lastReturn := t.lastReturn }

/-- A bitwise operation into A: each bit of the result, CY 0, and the given AC (42_logical.md R170). -/
def CombinesIntoA (i : Instr) (len : Word) (cycles : Nat) (bit : Bool → Bool → Bool) (ac : State → Byte → Bool)
    (v : State → Byte) : Prop :=
  ∀ s, Completes i s len cycles fun t =>
    (∀ k < 8, t.a.getLsbD k = bit (s.a.getLsbD k) ((v s).getLsbD k)) ∧
    ResultFlags t.flags t.a ∧ t.flags.cy = false ∧ t.flags.ac = ac s (v s) ∧ OnlyAAndFlags s t

/-- AC after AND under `ANA_AC_MODE` (42_logical.md R170). -/
def andAc (s : State) (v : Byte) : Bool :=
  match s.params.anaAcMode with
  | .clear => false
  | .orBit3 => s.a.getLsbD 3 || v.getLsbD 3

/-- AC after OR and exclusive OR. -/
def zeroAc (_ : State) (_ : Byte) : Bool := false

/-- The flags of INR: CY is kept (41_arithmetic.md R145). -/
def InrFlags (s t : State) (old new : Byte) : Prop :=
  ResultFlags t.flags new ∧ t.flags.ac = decide (old.toNat % 16 = 15) ∧ t.flags.cy = s.flags.cy

/-- The flags of DCR: CY is kept (41_arithmetic.md R147). -/
def DcrFlags (s t : State) (old new : Byte) : Prop :=
  ResultFlags t.flags new ∧ t.flags.ac = decide (old.toNat % 16 ≠ 0) ∧ t.flags.cy = s.flags.cy

/-- `i` executed `n` times. -/
def repeated (i : Instr) : Nat → State → Host.Outcome State Fault Refusal
  | 0, s => .next s
  | n + 1, s =>
    match exec i s with
    | .next t => repeated i n t
    | .fault f => .fault f
    | .refused r => .refused r

/-- Whether the condition with this code holds (43_branch.md R200). -/
def conditionCode (code : Nat) (f : Flags) : Bool :=
  match code with
  | 0 => !f.z
  | 1 => f.z
  | 2 => !f.cy
  | 3 => f.cy
  | 4 => !f.p
  | 5 => f.p
  | 6 => !f.s
  | _ => f.s

/-- Where the instruction with this opcode and these operand bytes stores (20_memory.md R55). -/
def storedAddresses (op b1 b2 : Byte) (s : State) : List Word :=
  -- MOV M,r (0x76 is HLT), MVI M, INR M, DCR M
  if (0x70 ≤ op.toNat ∧ op.toNat ≤ 0x77 ∧ op ≠ 0x76) ∨ op = 0x36 ∨ op = 0x34 ∨ op = 0x35 then [hlOf s]
  -- STA, SHLD, STAX
  else if op = 0x32 then [pairValue b2 b1]
  else if op = 0x22 then [pairValue b2 b1, pairValue b2 b1 + 1]
  else if op = 0x02 then [pairValue s.b s.c]
  else if op = 0x12 then [pairValue s.d s.e]
  -- PUSH, CALL, RST
  else if op ∈ [0xC5, 0xD5, 0xE5, 0xF5, 0xCD, 0xC7, 0xCF, 0xD7, 0xDF, 0xE7, 0xEF, 0xF7, 0xFF] then [s.sp - 1, s.sp - 2]
  -- Ccc, taken
  else if op.toNat / 64 = 3 ∧ op.toNat % 8 = 4 then
    if conditionCode (op.toNat / 8 % 8) s.flags then [s.sp - 1, s.sp - 2] else []
  -- the three undefined opcodes whose alias is CALL
  else if op ∈ [0xDD, 0xED, 0xFD] then
    if s.params.undefPolicy = .aliased then [s.sp - 1, s.sp - 2] else []
  -- XTHL
  else if op = 0xE3 then [s.sp, s.sp + 1]
  else []

/-- What the instruction with this opcode may do to the flags: the table of 10_state.md R30. -/
def FlagFrame (op : Byte) (f g : Flags) : Prop :=
  -- ADD ADC SUB SBB ANA XRA ORA CMP, their immediates, DAA, POP PSW: any flag
  if op.toNat / 64 = 2 ∨ (op.toNat / 64 = 3 ∧ op.toNat % 8 = 6) ∨ op = 0x27 ∨ op = 0xF1 then True
  -- INR, DCR: all but CY
  else if op.toNat / 64 = 0 ∧ (op.toNat % 8 = 4 ∨ op.toNat % 8 = 5) then g.cy = f.cy
  -- DAD, RLC, RRC, RAL, RAR, STC, CMC: CY only
  else if op ∈ [0x09, 0x19, 0x29, 0x39, 0x07, 0x0F, 0x17, 0x1F, 0x37, 0x3F] then g = { f with cy := g.cy }
  else g = f

/-! ## Tables: the opcode bytes of 30_encoding.md R81 with their instructions and operands -/

/-- MOV B,r: opcode, instruction, destination, source (40_data_transfer.md R101). -/
def movToBRows : List (Byte × Instr × Reg × Reg) :=
  [(0x40, .movBB, .b, .b), (0x41, .movBC, .b, .c), (0x42, .movBD, .b, .d), (0x43, .movBE, .b, .e), (0x44, .movBH, .b, .h),
   (0x45, .movBL, .b, .l), (0x47, .movBA, .b, .a)]

/-- MOV C,r: opcode, instruction, destination, source (40_data_transfer.md R101). -/
def movToCRows : List (Byte × Instr × Reg × Reg) :=
  [(0x48, .movCB, .c, .b), (0x49, .movCC, .c, .c), (0x4A, .movCD, .c, .d), (0x4B, .movCE, .c, .e), (0x4C, .movCH, .c, .h),
   (0x4D, .movCL, .c, .l), (0x4F, .movCA, .c, .a)]

/-- MOV D,r: opcode, instruction, destination, source (40_data_transfer.md R101). -/
def movToDRows : List (Byte × Instr × Reg × Reg) :=
  [(0x50, .movDB, .d, .b), (0x51, .movDC, .d, .c), (0x52, .movDD, .d, .d), (0x53, .movDE, .d, .e), (0x54, .movDH, .d, .h),
   (0x55, .movDL, .d, .l), (0x57, .movDA, .d, .a)]

/-- MOV E,r: opcode, instruction, destination, source (40_data_transfer.md R101). -/
def movToERows : List (Byte × Instr × Reg × Reg) :=
  [(0x58, .movEB, .e, .b), (0x59, .movEC, .e, .c), (0x5A, .movED, .e, .d), (0x5B, .movEE, .e, .e), (0x5C, .movEH, .e, .h),
   (0x5D, .movEL, .e, .l), (0x5F, .movEA, .e, .a)]

/-- MOV H,r: opcode, instruction, destination, source (40_data_transfer.md R101). -/
def movToHRows : List (Byte × Instr × Reg × Reg) :=
  [(0x60, .movHB, .h, .b), (0x61, .movHC, .h, .c), (0x62, .movHD, .h, .d), (0x63, .movHE, .h, .e), (0x64, .movHH, .h, .h),
   (0x65, .movHL, .h, .l), (0x67, .movHA, .h, .a)]

/-- MOV L,r: opcode, instruction, destination, source (40_data_transfer.md R101). -/
def movToLRows : List (Byte × Instr × Reg × Reg) :=
  [(0x68, .movLB, .l, .b), (0x69, .movLC, .l, .c), (0x6A, .movLD, .l, .d), (0x6B, .movLE, .l, .e), (0x6C, .movLH, .l, .h),
   (0x6D, .movLL, .l, .l), (0x6F, .movLA, .l, .a)]

/-- MOV A,r: opcode, instruction, destination, source (40_data_transfer.md R101). -/
def movToARows : List (Byte × Instr × Reg × Reg) :=
  [(0x78, .movAB, .a, .b), (0x79, .movAC, .a, .c), (0x7A, .movAD, .a, .d), (0x7B, .movAE, .a, .e), (0x7C, .movAH, .a, .h),
   (0x7D, .movAL, .a, .l), (0x7F, .movAA, .a, .a)]

/-- MOV r1,r2, all 49 (R101). -/
def movRows : List (Byte × Instr × Reg × Reg) :=
  movToBRows ++ movToCRows ++ movToDRows ++ movToERows ++ movToHRows ++ movToLRows ++ movToARows

/-- MOV r,M: opcode, instruction, destination (R102). -/
def movFromMRows : List (Byte × Instr × Reg) :=
  [(0x46, .movBM, .b), (0x4E, .movCM, .c), (0x56, .movDM, .d), (0x5E, .movEM, .e), (0x66, .movHM, .h), (0x6E, .movLM, .l),
   (0x7E, .movAM, .a)]

/-- MOV M,r: opcode, instruction, source (R103). -/
def movToMRows : List (Byte × Instr × Reg) :=
  [(0x70, .movMB, .b), (0x71, .movMC, .c), (0x72, .movMD, .d), (0x73, .movME, .e), (0x74, .movMH, .h), (0x75, .movML, .l),
   (0x77, .movMA, .a)]

/-- MVI r,d8: opcode, instruction by its immediate, destination (R104). -/
def mviRows : List (Byte × (Byte → Instr) × Reg) :=
  [(0x06, .mviB, .b), (0x0E, .mviC, .c), (0x16, .mviD, .d), (0x1E, .mviE, .e), (0x26, .mviH, .h), (0x2E, .mviL, .l),
   (0x3E, .mviA, .a)]

/-- ADD r: opcode, instruction, register (R133). -/
def addRows : List (Byte × Instr × Reg) :=
  [(0x80, .addB, .b), (0x81, .addC, .c), (0x82, .addD, .d), (0x83, .addE, .e), (0x84, .addH, .h), (0x85, .addL, .l),
   (0x87, .addA, .a)]

/-- ADC r: opcode, instruction, register (R136). -/
def adcRows : List (Byte × Instr × Reg) :=
  [(0x88, .adcB, .b), (0x89, .adcC, .c), (0x8A, .adcD, .d), (0x8B, .adcE, .e), (0x8C, .adcH, .h), (0x8D, .adcL, .l),
   (0x8F, .adcA, .a)]

/-- SUB r: opcode, instruction, register (R139). -/
def subRows : List (Byte × Instr × Reg) :=
  [(0x90, .subB, .b), (0x91, .subC, .c), (0x92, .subD, .d), (0x93, .subE, .e), (0x94, .subH, .h), (0x95, .subL, .l),
   (0x97, .subA, .a)]

/-- SBB r: opcode, instruction, register (R142). -/
def sbbRows : List (Byte × Instr × Reg) :=
  [(0x98, .sbbB, .b), (0x99, .sbbC, .c), (0x9A, .sbbD, .d), (0x9B, .sbbE, .e), (0x9C, .sbbH, .h), (0x9D, .sbbL, .l),
   (0x9F, .sbbA, .a)]

/-- ANA r: opcode, instruction, register (R171). -/
def anaRows : List (Byte × Instr × Reg) :=
  [(0xA0, .anaB, .b), (0xA1, .anaC, .c), (0xA2, .anaD, .d), (0xA3, .anaE, .e), (0xA4, .anaH, .h), (0xA5, .anaL, .l),
   (0xA7, .anaA, .a)]

/-- XRA r: opcode, instruction, register (R174). -/
def xraRows : List (Byte × Instr × Reg) :=
  [(0xA8, .xraB, .b), (0xA9, .xraC, .c), (0xAA, .xraD, .d), (0xAB, .xraE, .e), (0xAC, .xraH, .h), (0xAD, .xraL, .l),
   (0xAF, .xraA, .a)]

/-- ORA r: opcode, instruction, register (R177). -/
def oraRows : List (Byte × Instr × Reg) :=
  [(0xB0, .oraB, .b), (0xB1, .oraC, .c), (0xB2, .oraD, .d), (0xB3, .oraE, .e), (0xB4, .oraH, .h), (0xB5, .oraL, .l),
   (0xB7, .oraA, .a)]

/-- CMP r: opcode, instruction, register (R180). -/
def cmpRows : List (Byte × Instr × Reg) :=
  [(0xB8, .cmpB, .b), (0xB9, .cmpC, .c), (0xBA, .cmpD, .d), (0xBB, .cmpE, .e), (0xBC, .cmpH, .h), (0xBD, .cmpL, .l),
   (0xBF, .cmpA, .a)]

/-- INR r: opcode, instruction, register (R145). -/
def inrRows : List (Byte × Instr × Reg) :=
  [(0x04, .inrB, .b), (0x0C, .inrC, .c), (0x14, .inrD, .d), (0x1C, .inrE, .e), (0x24, .inrH, .h), (0x2C, .inrL, .l),
   (0x3C, .inrA, .a)]

/-- DCR r: opcode, instruction, register (R147). -/
def dcrRows : List (Byte × Instr × Reg) :=
  [(0x05, .dcrB, .b), (0x0D, .dcrC, .c), (0x15, .dcrD, .d), (0x1D, .dcrE, .e), (0x25, .dcrH, .h), (0x2D, .dcrL, .l),
   (0x3D, .dcrA, .a)]

/-- INX rp: opcode, instruction, pair (R149). -/
def inxRows : List (Byte × Instr × Rp) :=
  [(0x03, .inxB, .bc), (0x13, .inxD, .de), (0x23, .inxH, .hl), (0x33, .inxSP, .sp)]

/-- DCX rp: opcode, instruction, pair (R150). -/
def dcxRows : List (Byte × Instr × Rp) :=
  [(0x0B, .dcxB, .bc), (0x1B, .dcxD, .de), (0x2B, .dcxH, .hl), (0x3B, .dcxSP, .sp)]

/-- DAD rp: opcode, instruction, pair (R151). -/
def dadRows : List (Byte × Instr × Rp) :=
  [(0x09, .dadB, .bc), (0x19, .dadD, .de), (0x29, .dadH, .hl), (0x39, .dadSP, .sp)]

/-- PUSH rp: opcode, instruction, pair (R222). -/
def pushRows : List (Byte × Instr × Rp) :=
  [(0xC5, .pushB, .bc), (0xD5, .pushD, .de), (0xE5, .pushH, .hl)]

/-- POP rp: opcode, instruction, pair (R224). -/
def popRows : List (Byte × Instr × Rp) :=
  [(0xC1, .popB, .bc), (0xD1, .popD, .de), (0xE1, .popH, .hl)]

/-- Conditional jumps: opcode, instruction by its target, condition (43_branch.md R200, R202). -/
def jccRows : List (Byte × (Word → Instr) × (Flags → Bool)) :=
  [(0xC2, .jnz, fun f => !f.z), (0xCA, .jz, fun f => f.z), (0xD2, .jnc, fun f => !f.cy), (0xDA, .jc, fun f => f.cy),
   (0xE2, .jpo, fun f => !f.p), (0xEA, .jpe, fun f => f.p), (0xF2, .jp, fun f => !f.s), (0xFA, .jm, fun f => f.s)]

/-- Conditional calls: opcode, instruction by its target, condition (R200, R204). -/
def cccRows : List (Byte × (Word → Instr) × (Flags → Bool)) :=
  [(0xC4, .cnz, fun f => !f.z), (0xCC, .cz, fun f => f.z), (0xD4, .cnc, fun f => !f.cy), (0xDC, .cc, fun f => f.cy),
   (0xE4, .cpo, fun f => !f.p), (0xEC, .cpe, fun f => f.p), (0xF4, .cp, fun f => !f.s), (0xFC, .cm, fun f => f.s)]

/-- Conditional returns: opcode, instruction, condition (R200, R206). -/
def rccRows : List (Byte × Instr × (Flags → Bool)) :=
  [(0xC0, .rnz, fun f => !f.z), (0xC8, .rz, fun f => f.z), (0xD0, .rnc, fun f => !f.cy), (0xD8, .rc, fun f => f.cy),
   (0xE0, .rpo, fun f => !f.p), (0xE8, .rpe, fun f => f.p), (0xF0, .rp, fun f => !f.s), (0xF8, .rm, fun f => f.s)]

/-- RST n: opcode, instruction, target (R207). -/
def rstRows : List (Byte × Instr × Word) :=
  [(0xC7, .rst0, 0x0000), (0xCF, .rst1, 0x0008), (0xD7, .rst2, 0x0010), (0xDF, .rst3, 0x0018), (0xE7, .rst4, 0x0020),
   (0xEF, .rst5, 0x0028), (0xF7, .rst6, 0x0030), (0xFF, .rst7, 0x0038)]

/-- The twelve undefined opcodes: opcode, instruction by the two bytes that follow, and the instruction that the silicon runs
for it (45_io_control.md R246). -/
def undefinedRows : List (Byte × (Word → Instr) × (Word → Instr)) :=
  [(0x08, fun _ => .undef08, fun _ => .nop), (0x10, fun _ => .undef10, fun _ => .nop),
   (0x18, fun _ => .undef18, fun _ => .nop), (0x20, fun _ => .undef20, fun _ => .nop),
   (0x28, fun _ => .undef28, fun _ => .nop), (0x30, fun _ => .undef30, fun _ => .nop),
   (0x38, fun _ => .undef38, fun _ => .nop), (0xCB, .undefCB, .jmp), (0xD9, fun _ => .undefD9, fun _ => .ret),
   (0xDD, .undefDD, .call), (0xED, .undefED, .call), (0xFD, .undefFD, .call)]

end Sys2Proof.Claims

open Sys2Proof Sys2Proof.Machine Sys2Proof.Claims

/-! ## Encoding -/

/-- 30_encoding.md R71, R75, R77, R79 and 43_branch.md R200: words written out bit by bit, at least one of every family. -/
def Obligations.SpecWordsDecode : Prop :=
  decode [0b01000001] = .ok .movBC [] ∧ decode [0b01110111] = .ok .movMA [] ∧
  decode [0b00111110, 0x5A] = .ok (.mviA 0x5A) [] ∧ decode [0b00110001, 0x34, 0x12] = .ok (.lxiSP 0x1234) [] ∧
  decode [0b10011110] = .ok .sbbM [] ∧ decode [0b11001110, 0x0F] = .ok (.aci 0x0F) [] ∧
  decode [0b00101001] = .ok .dadH [] ∧ decode [0b10101011] = .ok .xraE [] ∧
  decode [0b11111110, 0x40] = .ok (.cpi 0x40) [] ∧ decode [0b11101010, 0x34, 0x12] = .ok (.jpe 0x1234) [] ∧
  decode [0b11011100, 0x00, 0x10] = .ok (.cc 0x1000) [] ∧ decode [0b11110000] = .ok .rp [] ∧
  decode [0b11101111] = .ok .rst5 [] ∧ decode [0b11110101] = .ok .pushPSW [] ∧
  decode [0b11010001] = .ok .popD [] ∧ decode [0b11011011, 0x01] = .ok (.inPort 0x01) [] ∧
  decode [0b01110110] = .ok .hlt [] ∧ decode [0b00001000] = .ok .undef08 []

/-- The decoder reads every instruction back from its encoding, with every operand value, and leaves the bytes after it:
30_encoding.md R70, R71, R81. -/
def Obligations.DecodeOfEncode : Prop :=
  ∀ (i : Instr) (rest : List Byte), decode (encode i ++ rest) = .ok i rest

/-- Each byte string has one meaning: the encoding of what an opcode byte and the two bytes after it decode to is those bytes,
as many as the instruction has (30_encoding.md R81, R84). -/
def Obligations.EncodeOfDecode : Prop :=
  ∀ op b1 b2 : Byte, encode (decodeOp op b1 b2) = [op, b1, b2].take (opLength op)

/-- 30_encoding.md R82: the twelve opcode bytes that define no instruction, and only they. -/
def Obligations.ExactlyTwelveOpcodesAreUndefined : Prop :=
  ∀ op b1 b2 : Byte, (¬ (decodeOp op b1 b2).WellFormed) ↔
    op ∈ [(0x08 : Byte), 0x10, 0x18, 0x20, 0x28, 0x30, 0x38, 0xCB, 0xD9, 0xDD, 0xED, 0xFD]

/-! ## The step -/

/-- 30_encoding.md R74, R78, R89; 20_memory.md R66: in a state that is neither faulted nor halted, `step` is `exec` of the
instruction that the bytes at the pc decode to (addresses wrap), on that same state: nothing is added around it. -/
def Obligations.StepRunsTheDecodedInstruction : Prop :=
  ∀ (s : State) (i : Instr) (rest : List Byte), s.faulted = none → s.halted = false →
    decode [s.mem.read s.pc, s.mem.read (s.pc + 1), s.mem.read (s.pc + 2)] = .ok i rest → step s = exec i s

/-- 30_encoding.md R88. -/
def Obligations.HaltedStepIdles : Prop :=
  (∀ s : State, s.faulted = none → s.halted = true → step s = .next { s with lastReturn := .cycles 4 }) ∧
  (∀ s t : State, s.halted = true → step s = .next t → t.halted = true) ∧
  (∀ s : State, s.halted = true → s.faulted = none → s.inte = true → s.raiseInterrupt.halted = false) ∧
  (∀ (x : Launch) (t : State), launch x = .next t → t.halted = false)

/-- 60_exceptions.md R262: a faulted session answers the same fault to every step (and no state changes: a stop has no next
state), ignores interrupt requests, and a reset starts a session without a fault. -/
def Obligations.DecodeFaultIsFinal : Prop :=
  (∀ (s : State) (f : DecodeFault), s.faulted = some f →
    step s = .fault (.decodeFault f.opcode f.addr) ∧ s.raiseInterrupt = s) ∧
  (∀ (x : Launch) (t : State), launch x = .next t → t.faulted = none)

/-- 60_exceptions.md R260: nothing traps but the decode fault. Every instruction, in every state, answers a next state; a step
answers a next state exactly when no fault is recorded, and is never refused. That an undefined opcode under the policy `fault`
answers a next state (the fault marked and returned), and that only a later step stops, is the model's choice: R260 to R262 do not
speak of next states (assumption log 8, DEDUCED). -/
def Obligations.OnlyAFaultedSessionStops : Prop :=
  (∀ (i : Instr) (s : State), ∃ t, exec i s = .next t) ∧
  (∀ s : State, (∃ t, step s = .next t) ↔ s.faulted = none) ∧
  (∀ (s : State) (r : Refusal), step s ≠ .refused r)

/-- The invariant `State.Inv` (memory is canonical, a fault mark names an undefined opcode under the policy `fault`) is kept by
every step, from every state that has it, and by every sequence of host calls (30_encoding.md R74; 60_exceptions.md R261,
R278). -/
def Obligations.StepAndHostCallsKeepInvariant : Prop :=
  (∀ s t : State, s.Inv → step s = .next t → t.Inv) ∧
  (∀ (calls : List HostCall) (s t : State), s.Inv → runCalls calls s = .next t → t.Inv)

/-- The invariants hold at reset, the model's own (`State.reset`) and every launch's (10_state.md R38). -/
def Obligations.ResetMeetsInvariants : Prop :=
  State.reset.Inv ∧ State.reset.PreciseFault ∧ ∀ (x : Launch) (t : State), launch x = .next t → t.Inv ∧ t.PreciseFault

/-- 60_exceptions.md R261, R270: a decode fault is precise. From every state where the fault mark, if set, names the opcode
byte at the pc and its address and is what the last step returned, a step or an interrupt request gives such a state. -/
def Obligations.DecodeFaultsArePrecise : Prop :=
  (∀ s t : State, s.PreciseFault → step s = .next t → t.PreciseFault) ∧
  (∀ s : State, s.PreciseFault → s.raiseInterrupt.PreciseFault)

/-- 60_exceptions.md R260, R261: a step records a fault exactly when the opcode byte at the pc is one of the twelve and the
policy is `fault`, and then nothing else changes but what the step returned. -/
def Obligations.DecodeFaultExactlyOnUndefinedOpcodes : Prop :=
  ∀ s t : State, s.faulted = none → s.halted = false → step s = .next t →
    if s.mem.read s.pc ∈ undefinedOpcodes ∧ s.params.undefPolicy = .fault then
      t = { s with faulted := some ⟨s.mem.read s.pc, s.pc⟩, lastReturn := .fault ⟨s.mem.read s.pc, s.pc⟩ }
    else t.faulted = none

/-! ## Reset -/

/-- 10_state.md R38; 70_reset_and_hazards.md R290, R291. Every launch whose image is not too long gives a session: registers,
flags and marks cleared, pc and sp the launch's, image byte `k` at `IMAGE_BASE + k` (addresses wrap), every other address its
`INIT_MEM` byte, no port call made, and a flag byte of 0x02. A longer image is refused. Two clauses are the model's choice: that
the session's parameters are a field of State, which reset sets (assumption log 1), and that the record `portCalls` is empty after
reset, the model's form of "no port function is called" (assumption log 10). -/
def Obligations.ResetGivesStatedValues : Prop :=
  (∀ x : Launch, x.WellFormed → ∃ t, launch x = .next t ∧
    (∀ r, t.getReg r = 0x00) ∧
    t.flags = { z := false, s := false, p := false, cy := false, ac := false } ∧ t.flags.byte = 0x02 ∧
    t.pc = x.entry ∧ t.sp = x.spInit ∧ t.inte = false ∧ t.halted = false ∧ t.faulted = none ∧
    (∀ k (hk : k < x.image.length), t.mem.read (x.imageBase + BitVec.ofNat 16 k) = x.image[k]) ∧
    (∀ a, (∀ k < x.image.length, a ≠ x.imageBase + BitVec.ofNat 16 k) → t.mem.read a = Memory.read x.initMem a) ∧
    t.params = x.params ∧ t.portCalls = []) ∧
  (∀ x : Launch, 65536 < x.image.length → launch x = .refused (.oversizeImage x.image.length))

/-! ## Memory and registers -/

/-- 00_scope.md R9; 20_memory.md R56, R57, R58: a 16-bit access is two byte accesses, the low byte at the lower address, each
address wrapped, for every address (0xFFFF too). -/
def Obligations.WordAccessIsLittleEndianAndWraps : Prop :=
  (∀ (m : Memory) (a : Word), (m.read16 a).toNat = (m.read a).toNat + 256 * (m.read (a + 1)).toNat) ∧
  (∀ (m : Memory) (a v : Word), (m.write16 a v).read16 a = v ∧
    (m.write16 a v).read a = lowOf v ∧ (m.write16 a v).read (a + 1) = highOf v ∧
    ∀ x, x ≠ a → x ≠ a + 1 → (m.write16 a v).read x = m.read x) ∧
  (∀ (m : Memory) (a : Word) (x y : Byte), ((m.write a x).write (a + 1) y).read16 a = pairValue y x)

/-- Memory is one array of bytes (20_memory.md R50): two memories in canonical form with the same byte at every address are the
same data. The canonical form is the model's own (assumption log 6). -/
def Obligations.EqualContentsAreEqualMemories : Prop :=
  ∀ m n : Memory, m.wf = true → n.wf = true → (∀ a : Word, m.read a = n.read a) → m = n

/-- 10_state.md R22: pairs are views, the high register first, and a write of a pair is a write of both halves; the registers
of different pairs are different. -/
def Obligations.PairsAreViewsOfRegisters : Prop :=
  (∀ s : State, (s.getRp .bc).toNat = s.b.toNat * 256 + s.c.toNat ∧ (s.getRp .de).toNat = s.d.toNat * 256 + s.e.toNat ∧
    (s.getRp .hl).toNat = s.h.toNat * 256 + s.l.toNat ∧ s.getRp .sp = s.sp) ∧
  (∀ (s : State) (v : Word), s.setRp .bc v = { s with b := highOf v, c := lowOf v } ∧
    s.setRp .de v = { s with d := highOf v, e := lowOf v } ∧ s.setRp .hl v = { s with h := highOf v, l := lowOf v } ∧
    s.setRp .sp v = { s with sp := v }) ∧
  (∀ (s : State) (p q : Rp) (v : Word), (s.setRp p v).getRp q = if q = p then v else s.getRp q) ∧
  (∀ (s : State) (r q : Reg) (v : Byte), (s.setReg r v).getReg q = if q = r then v else s.getReg q)

/-- 10_state.md R37; 60_exceptions.md R278: a host's accessor writes the element it names and nothing else; `INTE`, `halted`
and `faulted` are changed by no accessor. -/
def Obligations.HostWritesOneElement : Prop :=
  (∀ (r : Reg) (v : Byte) (s : State), ∃ t, hostCall (.writeReg r v) s = .next t ∧ SetsRegister s t r v ∧
    t = { s with b := t.b, c := t.c, d := t.d, e := t.e, h := t.h, l := t.l, a := t.a }) ∧
  (∀ (p : Rp) (v : Word) (s : State), ∃ t, hostCall (.writeRp p v) s = .next t ∧ t.getRp p = v ∧
    (∀ q, q ≠ p → t.getRp q = s.getRp q) ∧
    t = { s with b := t.b, c := t.c, d := t.d, e := t.e, h := t.h, l := t.l, sp := t.sp }) ∧
  (∀ (n : FlagName) (x : Bool) (s : State), ∃ t, hostCall (.writeFlag n x) s = .next t ∧
    t = { s with flags :=
      { z := if n = .z then x else s.flags.z, s := if n = .s then x else s.flags.s, p := if n = .p then x else s.flags.p
        cy := if n = .cy then x else s.flags.cy, ac := if n = .ac then x else s.flags.ac } }) ∧
  (∀ (v : Word) (s : State), hostCall (.writePc v) s = .next { s with pc := v }) ∧
  (∀ (a : Word) (v : Byte) (s : State), ∃ t, hostCall (.writeMem a v) s = .next t ∧ StoresByte s t a v ∧
    t = { s with mem := t.mem })

/-! ## Data transfer -/

/-- 40_data_transfer.md R101, all 49 instructions. -/
def Obligations.MovRegisterToRegister : Prop :=
  ∀ op i dst src, (op, i, dst, src) ∈ movRows → (∀ b1 b2, decodeOp op b1 b2 = i) ∧
    ∀ s, Completes i s 1 5 fun t => SetsRegister s t dst (s.getReg src) ∧ OnlyRegisters s t

/-- 40_data_transfer.md R102. -/
def Obligations.MovMemoryToRegister : Prop :=
  ∀ op i dst, (op, i, dst) ∈ movFromMRows → (∀ b1 b2, decodeOp op b1 b2 = i) ∧
    ∀ s, Completes i s 1 7 fun t => SetsRegister s t dst (s.mem.read (hlOf s)) ∧ OnlyRegisters s t

/-- 40_data_transfer.md R103. -/
def Obligations.MovRegisterToMemory : Prop :=
  ∀ op i r, (op, i, r) ∈ movToMRows → (∀ b1 b2, decodeOp op b1 b2 = i) ∧
    ∀ s, Completes i s 1 7 fun t => StoresByte s t (hlOf s) (s.getReg r) ∧ OnlyMemory s t

/-- 40_data_transfer.md R104, R105. -/
def Obligations.MoveImmediate : Prop :=
  (∀ op i r, (op, i, r) ∈ mviRows → (∀ b1 b2, decodeOp op b1 b2 = i b1) ∧
    ∀ d8 s, Completes (i d8) s 2 7 fun t => SetsRegister s t r d8 ∧ OnlyRegisters s t) ∧
  (∀ b1 b2, decodeOp 0x36 b1 b2 = .mviM b1) ∧
  (∀ d8 s, Completes (.mviM d8) s 2 10 fun t => StoresByte s t (hlOf s) d8 ∧ OnlyMemory s t)

/-- 40_data_transfer.md R106. -/
def Obligations.LoadPairImmediate : Prop :=
  (∀ lo hi, decodeOp 0x01 lo hi = .lxiB (pairValue hi lo) ∧ decodeOp 0x11 lo hi = .lxiD (pairValue hi lo) ∧
    decodeOp 0x21 lo hi = .lxiH (pairValue hi lo) ∧ decodeOp 0x31 lo hi = .lxiSP (pairValue hi lo)) ∧
  ∀ v s,
    exec (.lxiB v) s = .next { s with b := highOf v, c := lowOf v, pc := s.pc + 3, lastReturn := .cycles 10 } ∧
    exec (.lxiD v) s = .next { s with d := highOf v, e := lowOf v, pc := s.pc + 3, lastReturn := .cycles 10 } ∧
    exec (.lxiH v) s = .next { s with h := highOf v, l := lowOf v, pc := s.pc + 3, lastReturn := .cycles 10 } ∧
    exec (.lxiSP v) s = .next { s with sp := v, pc := s.pc + 3, lastReturn := .cycles 10 }

/-- 40_data_transfer.md R107, R108, R111, R112. -/
def Obligations.AccumulatorLoadsAndStores : Prop :=
  (∀ lo hi, decodeOp 0x3A lo hi = .lda (pairValue hi lo) ∧ decodeOp 0x32 lo hi = .sta (pairValue hi lo) ∧
    decodeOp 0x0A lo hi = .ldaxB ∧ decodeOp 0x1A lo hi = .ldaxD ∧ decodeOp 0x02 lo hi = .staxB ∧
    decodeOp 0x12 lo hi = .staxD) ∧
  ∀ s,
    (∀ x, Completes (.lda x) s 3 13 fun t => t.a = s.mem.read x ∧ OnlyA s t) ∧
    (∀ x, Completes (.sta x) s 3 13 fun t => StoresByte s t x s.a ∧ OnlyMemory s t) ∧
    (Completes .ldaxB s 1 7 fun t => t.a = s.mem.read (pairValue s.b s.c) ∧ OnlyA s t) ∧
    (Completes .ldaxD s 1 7 fun t => t.a = s.mem.read (pairValue s.d s.e) ∧ OnlyA s t) ∧
    (Completes .staxB s 1 7 fun t => StoresByte s t (pairValue s.b s.c) s.a ∧ OnlyMemory s t) ∧
    (Completes .staxD s 1 7 fun t => StoresByte s t (pairValue s.d s.e) s.a ∧ OnlyMemory s t)

/-- 40_data_transfer.md R109, R110. -/
def Obligations.HlLoadAndStoreDirect : Prop :=
  (∀ lo hi, decodeOp 0x2A lo hi = .lhld (pairValue hi lo) ∧ decodeOp 0x22 lo hi = .shld (pairValue hi lo)) ∧
  ∀ s x,
    exec (.lhld x) s =
      .next { s with l := s.mem.read x, h := s.mem.read (x + 1), pc := s.pc + 3, lastReturn := .cycles 16 } ∧
    Completes (.shld x) s 3 16 fun t => StoresWord s t x (hlOf s) ∧ OnlyMemory s t

/-- 40_data_transfer.md R113. -/
def Obligations.ExchangeHlWithDe : Prop :=
  (∀ b1 b2, decodeOp 0xEB b1 b2 = .xchg) ∧
  ∀ s, exec .xchg s = .next { s with h := s.d, l := s.e, d := s.h, e := s.l, pc := s.pc + 1, lastReturn := .cycles 4 }

/-! ## Arithmetic -/

/-- 41_arithmetic.md R130, R133 to R138: ADD, ADC, ADI, ACI on every operand. -/
def Obligations.AdditionIntoAccumulator : Prop :=
  (∀ op i r, (op, i, r) ∈ addRows → (∀ b1 b2, decodeOp op b1 b2 = i) ∧ AddsToA i 1 4 (regOperand r) noCarry) ∧
  (∀ op i r, (op, i, r) ∈ adcRows → (∀ b1 b2, decodeOp op b1 b2 = i) ∧ AddsToA i 1 4 (regOperand r) carryIn) ∧
  (∀ b1 b2, decodeOp 0x86 b1 b2 = .addM ∧ decodeOp 0x8E b1 b2 = .adcM ∧ decodeOp 0xC6 b1 b2 = .adi b1 ∧
    decodeOp 0xCE b1 b2 = .aci b1) ∧
  AddsToA .addM 1 7 mOperand noCarry ∧ AddsToA .adcM 1 7 mOperand carryIn ∧
  ∀ v, AddsToA (.adi v) 2 7 (fun _ => v) noCarry ∧ AddsToA (.aci v) 2 7 (fun _ => v) carryIn

/-- 41_arithmetic.md R131, R139 to R144: SUB, SBB, SUI, SBI on every operand. -/
def Obligations.SubtractionFromAccumulator : Prop :=
  (∀ op i r, (op, i, r) ∈ subRows → (∀ b1 b2, decodeOp op b1 b2 = i) ∧ SubtractsFromA i 1 4 (regOperand r) noCarry) ∧
  (∀ op i r, (op, i, r) ∈ sbbRows → (∀ b1 b2, decodeOp op b1 b2 = i) ∧ SubtractsFromA i 1 4 (regOperand r) carryIn) ∧
  (∀ b1 b2, decodeOp 0x96 b1 b2 = .subM ∧ decodeOp 0x9E b1 b2 = .sbbM ∧ decodeOp 0xD6 b1 b2 = .sui b1 ∧
    decodeOp 0xDE b1 b2 = .sbi b1) ∧
  SubtractsFromA .subM 1 7 mOperand noCarry ∧ SubtractsFromA .sbbM 1 7 mOperand carryIn ∧
  ∀ v, SubtractsFromA (.sui v) 2 7 (fun _ => v) noCarry ∧ SubtractsFromA (.sbi v) 2 7 (fun _ => v) carryIn

/-- 41_arithmetic.md R145, R146. -/
def Obligations.IncrementByte : Prop :=
  (∀ op i r, (op, i, r) ∈ inrRows → (∀ b1 b2, decodeOp op b1 b2 = i) ∧
    ∀ s, Completes i s 1 5 fun t => (t.getReg r).toNat = ((s.getReg r).toNat + 1) % 256 ∧
      SetsRegister s t r (t.getReg r) ∧ InrFlags s t (s.getReg r) (t.getReg r) ∧
      OnlyRegisters { s with flags := t.flags } t) ∧
  (∀ b1 b2, decodeOp 0x34 b1 b2 = .inrM) ∧
  ∀ s, Completes .inrM s 1 10 fun t => (t.mem.read (hlOf s)).toNat = ((mOperand s).toNat + 1) % 256 ∧
    StoresByte s t (hlOf s) (t.mem.read (hlOf s)) ∧ InrFlags s t (mOperand s) (t.mem.read (hlOf s)) ∧
    OnlyMemory { s with flags := t.flags } t

/-- 41_arithmetic.md R147, R148. -/
def Obligations.DecrementByte : Prop :=
  (∀ op i r, (op, i, r) ∈ dcrRows → (∀ b1 b2, decodeOp op b1 b2 = i) ∧
    ∀ s, Completes i s 1 5 fun t => (t.getReg r).toNat = ((s.getReg r).toNat + 255) % 256 ∧
      SetsRegister s t r (t.getReg r) ∧ DcrFlags s t (s.getReg r) (t.getReg r) ∧
      OnlyRegisters { s with flags := t.flags } t) ∧
  (∀ b1 b2, decodeOp 0x35 b1 b2 = .dcrM) ∧
  ∀ s, Completes .dcrM s 1 10 fun t => (t.mem.read (hlOf s)).toNat = ((mOperand s).toNat + 255) % 256 ∧
    StoresByte s t (hlOf s) (t.mem.read (hlOf s)) ∧ DcrFlags s t (mOperand s) (t.mem.read (hlOf s)) ∧
    OnlyMemory { s with flags := t.flags } t

/-- 41_arithmetic.md R149, R150. -/
def Obligations.IncrementAndDecrementPair : Prop :=
  (∀ op i p, (op, i, p) ∈ inxRows → (∀ b1 b2, decodeOp op b1 b2 = i) ∧
    ∀ s, Completes i s 1 5 fun t => (t.getRp p).toNat = ((s.getRp p).toNat + 1) % 65536 ∧ SetsPair s t p (t.getRp p)) ∧
  (∀ op i p, (op, i, p) ∈ dcxRows → (∀ b1 b2, decodeOp op b1 b2 = i) ∧
    ∀ s, Completes i s 1 5 fun t => (t.getRp p).toNat = ((s.getRp p).toNat + 65535) % 65536 ∧ SetsPair s t p (t.getRp p))

/-- 41_arithmetic.md R151: CY is the only flag written. -/
def Obligations.AddPairToHl : Prop :=
  ∀ op i p, (op, i, p) ∈ dadRows → (∀ b1 b2, decodeOp op b1 b2 = i) ∧
    ∀ s, Completes i s 1 10 fun t =>
      (hlOf t).toNat = ((hlOf s).toNat + (s.getRp p).toNat) % 65536 ∧
      t = { s with h := t.h, l := t.l, pc := t.pc, lastReturn := t.lastReturn
                   flags := { s.flags with cy := decide (65535 < (hlOf s).toNat + (s.getRp p).toNat) } }

/-- 41_arithmetic.md R152. -/
def Obligations.DecimalAdjust : Prop :=
  (∀ b1 b2, decodeOp 0x27 b1 b2 = .daa) ∧
  ∀ s, Completes .daa s 1 4 fun t =>
    let lo := s.a.toNat % 16
    let hi := s.a.toNat / 16
    let low := if s.flags.ac = true ∨ 9 < lo then 6 else 0
    let high := if s.flags.cy = true ∨ 9 < hi ∨ (9 ≤ hi ∧ 9 < lo) then 96 else 0
    t.a.toNat = (s.a.toNat + low + high) % 256 ∧ ResultFlags t.flags t.a ∧ t.flags.ac = decide (15 < lo + low) ∧
      t.flags.cy = (s.flags.cy || decide (high = 96)) ∧ OnlyAAndFlags s t

/-! ## Logical -/

/-- 42_logical.md R170 to R179: ANA, XRA, ORA and their immediates on every operand, under both values of `ANA_AC_MODE`. -/
def Obligations.BooleanOperationsIntoAccumulator : Prop :=
  (∀ op i r, (op, i, r) ∈ anaRows → (∀ b1 b2, decodeOp op b1 b2 = i) ∧ CombinesIntoA i 1 4 and andAc (regOperand r)) ∧
  (∀ op i r, (op, i, r) ∈ xraRows → (∀ b1 b2, decodeOp op b1 b2 = i) ∧ CombinesIntoA i 1 4 xor zeroAc (regOperand r)) ∧
  (∀ op i r, (op, i, r) ∈ oraRows → (∀ b1 b2, decodeOp op b1 b2 = i) ∧ CombinesIntoA i 1 4 or zeroAc (regOperand r)) ∧
  (∀ b1 b2, decodeOp 0xA6 b1 b2 = .anaM ∧ decodeOp 0xAE b1 b2 = .xraM ∧ decodeOp 0xB6 b1 b2 = .oraM ∧
    decodeOp 0xE6 b1 b2 = .ani b1 ∧ decodeOp 0xEE b1 b2 = .xri b1 ∧ decodeOp 0xF6 b1 b2 = .ori b1) ∧
  CombinesIntoA .anaM 1 7 and andAc mOperand ∧ CombinesIntoA .xraM 1 7 xor zeroAc mOperand ∧
  CombinesIntoA .oraM 1 7 or zeroAc mOperand ∧
  ∀ v, CombinesIntoA (.ani v) 2 7 and andAc (fun _ => v) ∧ CombinesIntoA (.xri v) 2 7 xor zeroAc (fun _ => v) ∧
    CombinesIntoA (.ori v) 2 7 or zeroAc (fun _ => v)

/-- 42_logical.md R180, R181, R182. -/
def Obligations.CompareWithAccumulator : Prop :=
  (∀ op i r, (op, i, r) ∈ cmpRows → (∀ b1 b2, decodeOp op b1 b2 = i) ∧ ComparesWithA i 1 4 (regOperand r)) ∧
  (∀ b1 b2, decodeOp 0xBE b1 b2 = .cmpM ∧ decodeOp 0xFE b1 b2 = .cpi b1) ∧
  ComparesWithA .cmpM 1 7 mOperand ∧ ∀ v, ComparesWithA (.cpi v) 2 7 (fun _ => v)

/-- 42_logical.md R183 to R186, bit by bit; CY is the only flag written. -/
def Obligations.RotateAccumulator : Prop :=
  (∀ b1 b2, decodeOp 0x07 b1 b2 = .rlc ∧ decodeOp 0x0F b1 b2 = .rrc ∧ decodeOp 0x17 b1 b2 = .ral ∧
    decodeOp 0x1F b1 b2 = .rar) ∧
  ∀ s,
    (Completes .rlc s 1 4 fun t => (∀ k < 7, t.a.getLsbD (k + 1) = s.a.getLsbD k) ∧ t.a.getLsbD 0 = s.a.getLsbD 7 ∧
      t.flags = { s.flags with cy := s.a.getLsbD 7 } ∧ OnlyAAndFlags s t) ∧
    (Completes .rrc s 1 4 fun t => (∀ k < 7, t.a.getLsbD k = s.a.getLsbD (k + 1)) ∧ t.a.getLsbD 7 = s.a.getLsbD 0 ∧
      t.flags = { s.flags with cy := s.a.getLsbD 0 } ∧ OnlyAAndFlags s t) ∧
    (Completes .ral s 1 4 fun t => (∀ k < 7, t.a.getLsbD (k + 1) = s.a.getLsbD k) ∧ t.a.getLsbD 0 = s.flags.cy ∧
      t.flags = { s.flags with cy := s.a.getLsbD 7 } ∧ OnlyAAndFlags s t) ∧
    (Completes .rar s 1 4 fun t => (∀ k < 7, t.a.getLsbD k = s.a.getLsbD (k + 1)) ∧ t.a.getLsbD 7 = s.flags.cy ∧
      t.flags = { s.flags with cy := s.a.getLsbD 0 } ∧ OnlyAAndFlags s t)

/-- 42_logical.md R185, R186, corner case: a 9-bit rotate, so nine of them restore A and CY. -/
def Obligations.NineRotatesThroughCarryRestore : Prop :=
  ∀ s, (∃ t, repeated .ral 9 s = .next t ∧ t.a = s.a ∧ t.flags = s.flags) ∧
    (∃ t, repeated .rar 9 s = .next t ∧ t.a = s.a ∧ t.flags = s.flags)

/-- 42_logical.md R187, R188, R189. -/
def Obligations.ComplementAndCarry : Prop :=
  (∀ b1 b2, decodeOp 0x2F b1 b2 = .cma ∧ decodeOp 0x3F b1 b2 = .cmc ∧ decodeOp 0x37 b1 b2 = .stc) ∧
  ∀ s,
    (Completes .cma s 1 4 fun t => t.a.toNat = 255 - s.a.toNat ∧ OnlyA s t) ∧
    exec .cmc s =
      .next { s with flags := { s.flags with cy := !s.flags.cy }, pc := s.pc + 1, lastReturn := .cycles 4 } ∧
    exec .stc s = .next { s with flags := { s.flags with cy := true }, pc := s.pc + 1, lastReturn := .cycles 4 }

/-! ## Branches -/

/-- 43_branch.md R200, R201, R202, R208. -/
def Obligations.Jumps : Prop :=
  (∀ lo hi, decodeOp 0xC3 lo hi = .jmp (pairValue hi lo) ∧ decodeOp 0xE9 lo hi = .pchl) ∧
  (∀ x s, exec (.jmp x) s = .next { s with pc := x, lastReturn := .cycles 10 }) ∧
  (∀ s, exec .pchl s = .next { s with pc := hlOf s, lastReturn := .cycles 5 }) ∧
  ∀ op i cond, (op, i, cond) ∈ jccRows → (∀ lo hi, decodeOp op lo hi = i (pairValue hi lo)) ∧
    ∀ x s, exec (i x) s = .next { s with pc := if cond s.flags then x else s.pc + 3, lastReturn := .cycles 10 }

/-- 43_branch.md R203, R204: the address of the next instruction is pushed; a call that is not taken moves past its 3 bytes. -/
def Obligations.Calls : Prop :=
  (∀ lo hi, decodeOp 0xCD lo hi = .call (pairValue hi lo)) ∧
  (∀ x s, ∃ t, exec (.call x) s = .next t ∧ StoresWord s t (s.sp - 2) (s.pc + 3) ∧
    t = { s with mem := t.mem, sp := s.sp - 2, pc := x, lastReturn := .cycles 17 }) ∧
  ∀ op i cond, (op, i, cond) ∈ cccRows → (∀ lo hi, decodeOp op lo hi = i (pairValue hi lo)) ∧
    ∀ x s, ∃ t, exec (i x) s = .next t ∧
      if cond s.flags then
        StoresWord s t (s.sp - 2) (s.pc + 3) ∧
          t = { s with mem := t.mem, sp := s.sp - 2, pc := x, lastReturn := .cycles 17 }
      else t = { s with pc := s.pc + 3, lastReturn := .cycles 11 }

/-- 43_branch.md R205, R206. -/
def Obligations.Returns : Prop :=
  (∀ b1 b2, decodeOp 0xC9 b1 b2 = .ret) ∧
  (∀ s, exec .ret s = .next { s with pc := wordAt s s.sp, sp := s.sp + 2, lastReturn := .cycles 10 }) ∧
  ∀ op i cond, (op, i, cond) ∈ rccRows → (∀ b1 b2, decodeOp op b1 b2 = i) ∧
    ∀ s, exec i s = .next
      (if cond s.flags then { s with pc := wordAt s s.sp, sp := s.sp + 2, lastReturn := .cycles 11 }
       else { s with pc := s.pc + 1, lastReturn := .cycles 5 })

/-- 43_branch.md R207; INTE is not changed. -/
def Obligations.Restart : Prop :=
  ∀ op i target, (op, i, target) ∈ rstRows → (∀ b1 b2, decodeOp op b1 b2 = i) ∧
    ∀ s, ∃ t, exec i s = .next t ∧ StoresWord s t (s.sp - 2) (s.pc + 1) ∧
      t = { s with mem := t.mem, sp := s.sp - 2, pc := target, lastReturn := .cycles 11 }

/-! ## Stack -/

/-- 44_stack.md R220, R222, R223; 10_state.md R27: the flag byte is S Z 0 AC 0 P 1 CY. -/
def Obligations.PushPairsAndPsw : Prop :=
  (∀ op i p, (op, i, p) ∈ pushRows → (∀ b1 b2, decodeOp op b1 b2 = i) ∧
    ∀ s, Completes i s 1 11 fun t => StoresWord s t (s.sp - 2) (s.getRp p) ∧ t.sp = s.sp - 2 ∧
      OnlyMemory { s with sp := t.sp } t) ∧
  (∀ b1 b2, decodeOp 0xF5 b1 b2 = .pushPSW) ∧
  ∀ s, Completes .pushPSW s 1 11 fun t =>
    t.mem.read (s.sp - 1) = s.a ∧
    (t.mem.read (s.sp - 2)).toNat = s.flags.s.toNat * 128 + s.flags.z.toNat * 64 + s.flags.ac.toNat * 16 +
      s.flags.p.toNat * 4 + 2 + s.flags.cy.toNat ∧
    (∀ x, x ≠ s.sp - 1 → x ≠ s.sp - 2 → t.mem.read x = s.mem.read x) ∧
    t.sp = s.sp - 2 ∧ OnlyMemory { s with sp := t.sp } t

/-- 44_stack.md R221, R224, R225; 10_state.md R28: the reserved bits of a popped flag byte are discarded. -/
def Obligations.PopPairsAndPsw : Prop :=
  (∀ op i p, (op, i, p) ∈ popRows → (∀ b1 b2, decodeOp op b1 b2 = i) ∧
    ∀ s, Completes i s 1 10 fun t => t.sp = s.sp + 2 ∧ SetsPair { s with sp := s.sp + 2 } t p (wordAt s s.sp)) ∧
  (∀ b1 b2, decodeOp 0xF1 b1 b2 = .popPSW) ∧
  ∀ s, Completes .popPSW s 1 10 fun t =>
    t.a = s.mem.read (s.sp + 1) ∧
    t.flags.s = (s.mem.read s.sp).getLsbD 7 ∧ t.flags.z = (s.mem.read s.sp).getLsbD 6 ∧
    t.flags.ac = (s.mem.read s.sp).getLsbD 4 ∧ t.flags.p = (s.mem.read s.sp).getLsbD 2 ∧
    t.flags.cy = (s.mem.read s.sp).getLsbD 0 ∧ t.sp = s.sp + 2 ∧ OnlyAAndFlags { s with sp := t.sp } t

/-- 44_stack.md R228: what is pushed from a pair or PSW is what a pop gives, sp is restored, and the two bytes stay. -/
def Obligations.PushThenPopRestores : Prop :=
  (∀ (s : State) (v : Word), (s.push16 v).stackTop = v ∧ (s.push16 v).dropTop.sp = s.sp ∧
    (s.push16 v).dropTop.mem.read (s.sp - 1) = highOf v ∧ (s.push16 v).dropTop.mem.read (s.sp - 2) = lowOf v) ∧
  (∀ s t u : State, exec .pushB s = .next t → exec .popB t = .next u → u.b = s.b ∧ u.c = s.c ∧ u.sp = s.sp) ∧
  (∀ s t u : State, exec .pushD s = .next t → exec .popD t = .next u → u.d = s.d ∧ u.e = s.e ∧ u.sp = s.sp) ∧
  (∀ s t u : State, exec .pushH s = .next t → exec .popH t = .next u → u.h = s.h ∧ u.l = s.l ∧ u.sp = s.sp) ∧
  (∀ s t u : State, exec .pushPSW s = .next t → exec .popPSW t = .next u → u.a = s.a ∧ u.flags = s.flags ∧ u.sp = s.sp)

/-- 44_stack.md R226, R227. -/
def Obligations.ExchangeStackTopAndLoadSp : Prop :=
  (∀ b1 b2, decodeOp 0xE3 b1 b2 = .xthl ∧ decodeOp 0xF9 b1 b2 = .sphl) ∧
  ∀ s,
    (Completes .xthl s 1 18 fun t => StoresWord s t s.sp (hlOf s) ∧ t.l = s.mem.read s.sp ∧ t.h = s.mem.read (s.sp + 1) ∧
      OnlyMemory { s with h := t.h, l := t.l } t) ∧
    exec .sphl s = .next { s with sp := hlOf s, pc := s.pc + 1, lastReturn := .cycles 5 }

/-- 44_stack.md R226, corner case: two XTHLs in a row restore the state, but for the pc, which has moved on, and what the step
returned. Memory must be canonical for the lists of cells to be the same data. -/
def Obligations.TwoStackTopExchangesRestore : Prop :=
  ∀ s t u : State, s.mem.wf = true → exec .xthl s = .next t → exec .xthl t = .next u →
    u = { s with pc := s.pc + 2, lastReturn := .cycles 18 }

/-! ## I/O, control, undefined opcodes -/

/-- 45_io_control.md R240, R241, R247: one port call, with the immediate as the port; an IN takes the host's answer, the next
of those it has given, or else the free value `Config.portIn`, of which nothing is known. Both forms are the model's choice: the
list of answers and the free value after it (assumption logs 9 and 20), and the record of calls (assumption log 10). -/
def Obligations.PortInputAndOutput : Prop :=
  (∀ b1 b2, decodeOp 0xDB b1 b2 = .inPort b1 ∧ decodeOp 0xD3 b1 b2 = .outPort b1) ∧
  (∀ p s v rest, s.portAnswers = v :: rest →
    exec (.inPort p) s = .next { s with a := v, portCalls := s.portCalls ++ [.input p v], portAnswers := rest
                                        pc := s.pc + 2, lastReturn := .cycles 10 }) ∧
  (∀ p s, s.portAnswers = [] →
    exec (.inPort p) s = .next { s with a := Config.portIn p s.portCalls.length
                                        portCalls := s.portCalls ++ [.input p (Config.portIn p s.portCalls.length)]
                                        pc := s.pc + 2, lastReturn := .cycles 10 }) ∧
  (∀ p s, exec (.outPort p) s =
    .next { s with portCalls := s.portCalls ++ [.output p s.a], pc := s.pc + 2, lastReturn := .cycles 10 })

/-- 45_io_control.md R242 to R245. The state after EI accepts a request; the state after HLT idles, an accepted request ends the
halt and pushes the address after the HLT, and with interrupts disabled a request changes nothing. -/
def Obligations.ControlInstructions : Prop :=
  (∀ b1 b2, decodeOp 0xFB b1 b2 = .ei ∧ decodeOp 0xF3 b1 b2 = .di ∧ decodeOp 0x76 b1 b2 = .hlt ∧
    decodeOp 0x00 b1 b2 = .nop) ∧
  (∀ s,
    exec .ei s = .next { s with inte := true, pc := s.pc + 1, lastReturn := .cycles 4 } ∧
    exec .di s = .next { s with inte := false, pc := s.pc + 1, lastReturn := .cycles 4 } ∧
    exec .hlt s = .next { s with halted := true, pc := s.pc + 1, lastReturn := .cycles 7 } ∧
    exec .nop s = .next { s with pc := s.pc + 1, lastReturn := .cycles 4 }) ∧
  (∀ s t : State, s.faulted = none → exec .ei s = .next t →
    t.raiseInterrupt.inte = false ∧ t.raiseInterrupt.pc = s.params.intVector) ∧
  (∀ s t : State, s.faulted = none → exec .hlt s = .next t →
    step t = .next { t with lastReturn := .cycles 4 } ∧
    (s.inte = true → t.raiseInterrupt.halted = false ∧ wordAt t.raiseInterrupt t.raiseInterrupt.sp = s.pc + 1) ∧
    (s.inte = false → t.raiseInterrupt = t))

/-- 45_io_control.md R246; 60_exceptions.md R261. Under `fault` the fault names the opcode and the pc and nothing else changes;
under `nop` each is a 1-byte NOP of 4 cycles; under `alias` each is what the silicon runs. -/
def Obligations.UndefinedOpcodesFollowThePolicy : Prop :=
  ∀ op i other, (op, i, other) ∈ undefinedRows →
    (∀ lo hi, decodeOp op lo hi = i (pairValue hi lo)) ∧
    ∀ x s,
      (s.params.undefPolicy = .fault →
        exec (i x) s = .next { s with faulted := some ⟨op, s.pc⟩, lastReturn := .fault ⟨op, s.pc⟩ }) ∧
      (s.params.undefPolicy = .nop → exec (i x) s = .next { s with pc := s.pc + 1, lastReturn := .cycles 4 }) ∧
      (s.params.undefPolicy = .aliased → exec (i x) s = exec (other x) s)

/-! ## Interrupts -/

/-- 60_exceptions.md R265, R266; 70_reset_and_hazards.md R301: a request is dropped while interrupts are disabled or the session
is faulted, else accepted; right after EI it is accepted. -/
def Obligations.InterruptRequest : Prop :=
  (∀ s : State, s.faulted = none → s.inte = true →
    StoresWord s s.raiseInterrupt (s.sp - 2) s.pc ∧
    s.raiseInterrupt = { s with mem := s.raiseInterrupt.mem, sp := s.sp - 2, pc := s.params.intVector
                                inte := false, halted := false }) ∧
  (∀ s : State, s.inte = false → s.raiseInterrupt = s) ∧
  (∀ s : State, s.faulted ≠ none → s.raiseInterrupt = s) ∧
  (∀ s t : State, s.faulted = none → exec .ei s = .next t → t.raiseInterrupt.pc = s.params.intVector)

/-- 60_exceptions.md R267: a handler that leaves sp and the two pushed bytes as it found them returns, with RET, to the pc that
the interrupt pushed, with the stack as before it and INTE as the handler left it. -/
def Obligations.HandlerReturnsWithRet : Prop :=
  ∀ s h : State, s.faulted = none → s.inte = true → h.sp = s.raiseInterrupt.sp →
    h.mem.read h.sp = s.raiseInterrupt.mem.read h.sp → h.mem.read (h.sp + 1) = s.raiseInterrupt.mem.read (h.sp + 1) →
    ∃ u, exec .ret h = .next u ∧ u.pc = s.pc ∧ u.sp = s.sp ∧ u.inte = h.inte

/-! ## The whole machine -/

/-- 10_state.md R29, R30: over every opcode, no flag changes that the table does not list. -/
def Obligations.FlagsChangeOnlyAsListed : Prop :=
  ∀ (op b1 b2 : Byte) (s t : State), exec (decodeOp op b1 b2) s = .next t → FlagFrame op s.flags t.flags

/-- 10_state.md R32, R33; 45_io_control.md R247; 00_scope.md R5: over every opcode, INTE is written by EI and DI only, `halted`
by HLT only, a port call is made by IN and OUT only (exactly one), and the session's parameters never change. -/
def Obligations.ControlStateChangesOnlyAsListed : Prop :=
  ∀ (op b1 b2 : Byte) (s t : State), exec (decodeOp op b1 b2) s = .next t →
    t.inte = (if op = 0xFB then true else if op = 0xF3 then false else s.inte) ∧
    t.halted = (if op = 0x76 then true else s.halted) ∧
    t.params = s.params ∧
    (if op = 0xDB then ∃ v, t.portCalls = s.portCalls ++ [.input b1 v] ∧ t.a = v
     else if op = 0xD3 then t.portCalls = s.portCalls ++ [.output b1 s.a]
     else t.portCalls = s.portCalls) ∧
    (op ≠ 0xDB → t.portAnswers = s.portAnswers)

/-- 20_memory.md R55, R61: over every opcode, no byte of memory changes but those the table says the instruction writes. -/
def Obligations.MemoryChangesOnlyWhereStored : Prop :=
  ∀ (op b1 b2 : Byte) (s t : State), exec (decodeOp op b1 b2) s = .next t →
    ∀ x, x ∉ storedAddresses op b1 b2 s → t.mem.read x = s.mem.read x

/-- 70_reset_and_hazards.md R303: no step and no interrupt request changes a quiescent state. The rule says "exactly when"; the
converse does not hold of the spec's own instructions, and the second part shows it: a jump to itself with interrupts disabled
changes nothing either (43_branch.md R201, corner case; assumption log 16). -/
def Obligations.QuiescentStatesDoNotChange : Prop :=
  (∀ s : State, s.quiescent = true → (∀ t, step s = .next t → s.SameAs t) ∧ s.raiseInterrupt = s) ∧
  ∃ s t : State, s.quiescent = false ∧ step s = .next t ∧ s.SameAs t ∧ s.raiseInterrupt = s

/-- 70_reset_and_hazards.md R300, R304: nothing reads a cycle count back: two states that differ only in what the last step
returned step to the same outcome, the host's port answer being the same in both (assumption log 20). Every count returned is one
of the table's. That the returned value is a field of State is the model's choice (assumption log 7). -/
def Obligations.ReturnValuesAreNeverReadBack : Prop :=
  (∀ (s : State) (r : StepReturn), step { s with lastReturn := r } = step s ∧
    State.raiseInterrupt { s with lastReturn := r } = { s.raiseInterrupt with lastReturn := r }) ∧
  (∀ s t : State, step s = .next t →
    (∃ f, t.lastReturn = .fault f ∧ t.faulted = some f) ∨
    ∃ n, n ∈ [4, 5, 7, 10, 11, 13, 16, 17, 18] ∧ t.lastReturn = .cycles n)
end

