-- ==== Sys2Proof/Laws/Memory.lean ====
section
/-! SUPPORT. Memory: a read after a write, in every list of cells, and the canonical form, which every memory operation
keeps. -/

namespace Sys2Proof.Machine

/-! ## Reads after writes -/

theorem lookup_filter_same (m : Memory) (k : Nat) :
    Memory.lookup (m.filter (fun c => decide (c.1 ≠ k))) k = unlistedByte := by
  induction m with
  | nil => rfl
  | cons cell rest ih =>
    obtain ⟨j, w⟩ := cell
    by_cases hj : j = k
    · simpa [hj] using ih
    · simpa [Memory.lookup, hj] using ih

theorem lookup_filter_ne (m : Memory) {k q : Nat} (hq : q ≠ k) :
    Memory.lookup (m.filter (fun c => decide (c.1 ≠ k))) q = Memory.lookup m q := by
  induction m with
  | nil => rfl
  | cons cell rest ih =>
    obtain ⟨j, w⟩ := cell
    by_cases hj : j = k
    · subst hj; simpa [Memory.lookup, hq.symm] using ih
    · by_cases hjq : j = q
      · simp [Memory.lookup, hjq, hq]
      · simpa [Memory.lookup, hj, hjq] using ih

theorem lookup_place_same (m : Memory) (k : Nat) (v : Byte) (h : ∀ c ∈ m, c.1 ≠ k) :
    Memory.lookup (Memory.place m k v) k = v := by
  induction m with
  | nil => simp [Memory.place, Memory.lookup]
  | cons cell rest ih =>
    obtain ⟨j, w⟩ := cell
    by_cases hlt : k < j
    · simp [Memory.place, Memory.lookup, hlt]
    · have hj : j ≠ k := h (j, w) (by simp)
      simpa [Memory.place, Memory.lookup, hlt, hj] using ih (fun c hc => h c (by simp [hc]))

theorem lookup_place_ne (m : Memory) {k q : Nat} (v : Byte) (hq : q ≠ k) :
    Memory.lookup (Memory.place m k v) q = Memory.lookup m q := by
  induction m with
  | nil => simp [Memory.place, Memory.lookup, hq.symm]
  | cons cell rest ih =>
    obtain ⟨j, w⟩ := cell
    by_cases hlt : k < j
    · simp [Memory.place, Memory.lookup, hlt, hq.symm]
    · by_cases hj : j = q
      · subst hj; simp [Memory.place, Memory.lookup, hlt]
      · simpa [Memory.place, Memory.lookup, hlt, hj] using ih

/-- `MemRead` of the address just written (20_memory.md R62). -/
@[simp] theorem read_write_same (m : Memory) (a : Word) (v : Byte) : (m.write a v).read a = v := by
  unfold Memory.write Memory.read
  split
  · next h => rw [h]; exact lookup_filter_same m a.toNat
  · exact lookup_place_same _ _ _ (by simp)

/-- A write changes only the byte it names (20_memory.md R61). -/
theorem read_write_ne (m : Memory) {a x : Word} (v : Byte) (h : x ≠ a) : (m.write a v).read x = m.read x := by
  have hn : x.toNat ≠ a.toNat := fun e => h (BitVec.eq_of_toNat_eq e)
  unfold Memory.write Memory.read
  split
  · exact lookup_filter_ne m hn
  · rw [lookup_place_ne _ _ hn]; exact lookup_filter_ne m hn

/-- Both cases in one. -/
theorem read_write (m : Memory) (a x : Word) (v : Byte) : (m.write a v).read x = if x = a then v else m.read x := by
  split
  · next h => rw [h]; exact read_write_same m a v
  · next h => exact read_write_ne m v h

/-! ## The canonical form -/

theorem wf_cons (k : Nat) (v : Byte) (rest : Memory) :
    Memory.wf ((k, v) :: rest) = true ↔
      k < 65536 ∧ v ≠ unlistedByte ∧ (∀ c ∈ rest, k < c.1) ∧ Memory.wf rest = true := by
  simp only [Memory.wf, Bool.and_eq_true, decide_eq_true_eq, List.all_eq_true]
  tauto

theorem wf_filter {m : Memory} (keep : Host.Cell → Bool) (h : m.wf = true) :
    Memory.wf (m.filter keep) = true := by
  induction m with
  | nil => rfl
  | cons cell rest ih =>
    obtain ⟨k, v⟩ := cell
    obtain ⟨hk, hv, hlt, hr⟩ := (wf_cons k v rest).mp h
    rw [List.filter_cons]
    split
    · exact (wf_cons k v _).mpr ⟨hk, hv, fun c hc => hlt c (List.mem_of_mem_filter hc), ih hr⟩
    · exact ih hr

theorem mem_place {m : Memory} {k : Nat} {v : Byte} {c : Host.Cell} (h : c ∈ Memory.place m k v) :
    c = (k, v) ∨ c ∈ m := by
  induction m with
  | nil => simpa [Memory.place] using h
  | cons cell rest ih =>
    obtain ⟨j, w⟩ := cell
    rw [Memory.place] at h
    split at h
    · simpa using h
    · rcases List.mem_cons.mp h with h | h
      · exact .inr (by simp [h])
      · exact (ih h).imp id (fun hc => by simp [hc])

theorem wf_place {m : Memory} {k : Nat} {v : Byte} (h : m.wf = true) (hk : k < 65536) (hv : v ≠ unlistedByte)
    (hn : ∀ c ∈ m, c.1 ≠ k) : Memory.wf (Memory.place m k v) = true := by
  induction m with
  | nil => exact (wf_cons k v []).mpr ⟨hk, hv, by simp, rfl⟩
  | cons cell rest ih =>
    obtain ⟨j, w⟩ := cell
    obtain ⟨hj, hw, hlt, hr⟩ := (wf_cons j w rest).mp h
    rw [Memory.place]
    split
    · next hkj =>
      refine (wf_cons k v _).mpr ⟨hk, hv, fun c hc => ?_, h⟩
      rcases List.mem_cons.mp hc with rfl | hc
      · exact hkj
      · exact hkj.trans (hlt c hc)
    · next hkj =>
      have hjk : j ≠ k := hn (j, w) (by simp)
      refine (wf_cons j w _).mpr ⟨hj, hw, fun c hc => ?_, ih hr (fun c hc => hn c (by simp [hc]))⟩
      rcases mem_place hc with rfl | hc
      · show j < k
        omega
      · exact hlt c hc

/-- A write keeps the canonical form. -/
theorem wf_write {m : Memory} (a : Word) (v : Byte) (h : m.wf = true) : (m.write a v).wf = true := by
  unfold Memory.write
  split
  · exact wf_filter _ h
  · next hv => exact wf_place (wf_filter _ h) a.isLt hv (by simp)

/-- A 16-bit write keeps the canonical form. -/
theorem wf_write16 {m : Memory} (a v : Word) (h : m.wf = true) : (m.write16 a v).wf = true :=
  wf_write _ _ (wf_write _ _ h)

/-- The image load keeps the canonical form. -/
theorem wf_loadImage {m : Memory} (base : Word) (image : List Byte) (h : m.wf = true) :
    (m.loadImage base image).wf = true := by
  induction image generalizing m base with
  | nil => exact h
  | cons v rest ih => exact ih (base + 1) (wf_write base v h)

/-- `Memory.canonical` gives the canonical form, whatever the list. -/
theorem wf_canonical (cells : List Host.Cell) : (Memory.canonical cells).wf = true := by
  induction cells with
  | nil => rfl
  | cons cell rest ih =>
    show Memory.wf (if cell.1 < 65536 then (Memory.canonical rest).write (BitVec.ofNat 16 cell.1) cell.2
      else Memory.canonical rest) = true
    split
    · exact wf_write _ _ ih
    · exact ih

/-- `Memory.canonical` has the contents of the list. -/
theorem read_canonical (cells : List Host.Cell) (a : Word) :
    (Memory.canonical cells).read a = Memory.read cells a := by
  induction cells with
  | nil => rfl
  | cons cell rest ih =>
    obtain ⟨k, v⟩ := cell
    show Memory.read (if k < 65536 then (Memory.canonical rest).write (BitVec.ofNat 16 k) v
      else Memory.canonical rest) a = Memory.lookup ((k, v) :: rest) a.toNat
    have hlt := a.isLt
    by_cases hk : k < 65536
    · rw [if_pos hk, read_write, ih]
      have he : a = BitVec.ofNat 16 k ↔ k = a.toNat := by
        constructor
        · rintro rfl; simp; omega
        · rintro rfl; simp
      simp only [he, Memory.lookup]
      rfl
    · rw [if_neg hk, ih]
      have hne : k ≠ a.toNat := by omega
      simp [Memory.lookup, hne, Memory.read]

/-- Memory is canonical at reset. -/
theorem reset_mem_wf : State.reset.mem.wf = true := rfl

end Sys2Proof.Machine
end

