-- ==== Sys2Proof/Laws/State.lean ====
section
/-! SUPPORT. One lemma for each field and each update of the state, so that no later proof unfolds a record update. -/

namespace Sys2Proof.Machine

/-! ### memWrite: `MemWrite(a, 1, v)` -/

@[simp] theorem memWrite_b (s : State) (x : Word) (v : Byte) : (s.memWrite x v).b = s.b := rfl
@[simp] theorem memWrite_c (s : State) (x : Word) (v : Byte) : (s.memWrite x v).c = s.c := rfl
@[simp] theorem memWrite_d (s : State) (x : Word) (v : Byte) : (s.memWrite x v).d = s.d := rfl
@[simp] theorem memWrite_e (s : State) (x : Word) (v : Byte) : (s.memWrite x v).e = s.e := rfl
@[simp] theorem memWrite_h (s : State) (x : Word) (v : Byte) : (s.memWrite x v).h = s.h := rfl
@[simp] theorem memWrite_l (s : State) (x : Word) (v : Byte) : (s.memWrite x v).l = s.l := rfl
@[simp] theorem memWrite_a (s : State) (x : Word) (v : Byte) : (s.memWrite x v).a = s.a := rfl
@[simp] theorem memWrite_flags (s : State) (x : Word) (v : Byte) : (s.memWrite x v).flags = s.flags := rfl
@[simp] theorem memWrite_pc (s : State) (x : Word) (v : Byte) : (s.memWrite x v).pc = s.pc := rfl
@[simp] theorem memWrite_sp (s : State) (x : Word) (v : Byte) : (s.memWrite x v).sp = s.sp := rfl
@[simp] theorem memWrite_inte (s : State) (x : Word) (v : Byte) : (s.memWrite x v).inte = s.inte := rfl
@[simp] theorem memWrite_halted (s : State) (x : Word) (v : Byte) : (s.memWrite x v).halted = s.halted := rfl
@[simp] theorem memWrite_faulted (s : State) (x : Word) (v : Byte) : (s.memWrite x v).faulted = s.faulted := rfl
@[simp] theorem memWrite_mem (s : State) (x : Word) (v : Byte) : (s.memWrite x v).mem = s.mem.write x v := rfl
@[simp] theorem memWrite_params (s : State) (x : Word) (v : Byte) : (s.memWrite x v).params = s.params := rfl
@[simp] theorem memWrite_lastReturn (s : State) (x : Word) (v : Byte) : (s.memWrite x v).lastReturn = s.lastReturn := rfl
@[simp] theorem memWrite_portCalls (s : State) (x : Word) (v : Byte) : (s.memWrite x v).portCalls = s.portCalls := rfl
@[simp] theorem memWrite_portAnswers (s : State) (x : Word) (v : Byte) : (s.memWrite x v).portAnswers = s.portAnswers := rfl

/-! ### jumpTo: `pc <- target` -/

@[simp] theorem jumpTo_b (s : State) (x : Word) : (s.jumpTo x).b = s.b := rfl
@[simp] theorem jumpTo_c (s : State) (x : Word) : (s.jumpTo x).c = s.c := rfl
@[simp] theorem jumpTo_d (s : State) (x : Word) : (s.jumpTo x).d = s.d := rfl
@[simp] theorem jumpTo_e (s : State) (x : Word) : (s.jumpTo x).e = s.e := rfl
@[simp] theorem jumpTo_h (s : State) (x : Word) : (s.jumpTo x).h = s.h := rfl
@[simp] theorem jumpTo_l (s : State) (x : Word) : (s.jumpTo x).l = s.l := rfl
@[simp] theorem jumpTo_a (s : State) (x : Word) : (s.jumpTo x).a = s.a := rfl
@[simp] theorem jumpTo_flags (s : State) (x : Word) : (s.jumpTo x).flags = s.flags := rfl
@[simp] theorem jumpTo_pc (s : State) (x : Word) : (s.jumpTo x).pc = x := rfl
@[simp] theorem jumpTo_sp (s : State) (x : Word) : (s.jumpTo x).sp = s.sp := rfl
@[simp] theorem jumpTo_inte (s : State) (x : Word) : (s.jumpTo x).inte = s.inte := rfl
@[simp] theorem jumpTo_halted (s : State) (x : Word) : (s.jumpTo x).halted = s.halted := rfl
@[simp] theorem jumpTo_faulted (s : State) (x : Word) : (s.jumpTo x).faulted = s.faulted := rfl
@[simp] theorem jumpTo_mem (s : State) (x : Word) : (s.jumpTo x).mem = s.mem := rfl
@[simp] theorem jumpTo_params (s : State) (x : Word) : (s.jumpTo x).params = s.params := rfl
@[simp] theorem jumpTo_lastReturn (s : State) (x : Word) : (s.jumpTo x).lastReturn = s.lastReturn := rfl
@[simp] theorem jumpTo_portCalls (s : State) (x : Word) : (s.jumpTo x).portCalls = s.portCalls := rfl
@[simp] theorem jumpTo_portAnswers (s : State) (x : Word) : (s.jumpTo x).portAnswers = s.portAnswers := rfl

/-! ### advance: the advance to `next` -/

@[simp] theorem advance_b (s : State) (n : Word) : (s.advance n).b = s.b := rfl
@[simp] theorem advance_c (s : State) (n : Word) : (s.advance n).c = s.c := rfl
@[simp] theorem advance_d (s : State) (n : Word) : (s.advance n).d = s.d := rfl
@[simp] theorem advance_e (s : State) (n : Word) : (s.advance n).e = s.e := rfl
@[simp] theorem advance_h (s : State) (n : Word) : (s.advance n).h = s.h := rfl
@[simp] theorem advance_l (s : State) (n : Word) : (s.advance n).l = s.l := rfl
@[simp] theorem advance_a (s : State) (n : Word) : (s.advance n).a = s.a := rfl
@[simp] theorem advance_flags (s : State) (n : Word) : (s.advance n).flags = s.flags := rfl
@[simp] theorem advance_pc (s : State) (n : Word) : (s.advance n).pc = s.pc + n := rfl
@[simp] theorem advance_sp (s : State) (n : Word) : (s.advance n).sp = s.sp := rfl
@[simp] theorem advance_inte (s : State) (n : Word) : (s.advance n).inte = s.inte := rfl
@[simp] theorem advance_halted (s : State) (n : Word) : (s.advance n).halted = s.halted := rfl
@[simp] theorem advance_faulted (s : State) (n : Word) : (s.advance n).faulted = s.faulted := rfl
@[simp] theorem advance_mem (s : State) (n : Word) : (s.advance n).mem = s.mem := rfl
@[simp] theorem advance_params (s : State) (n : Word) : (s.advance n).params = s.params := rfl
@[simp] theorem advance_lastReturn (s : State) (n : Word) : (s.advance n).lastReturn = s.lastReturn := rfl
@[simp] theorem advance_portCalls (s : State) (n : Word) : (s.advance n).portCalls = s.portCalls := rfl
@[simp] theorem advance_portAnswers (s : State) (n : Word) : (s.advance n).portAnswers = s.portAnswers := rfl

/-! ### returns: the return value of a step -/

@[simp] theorem returns_b (s : State) (r : StepReturn) : (s.returns r).b = s.b := rfl
@[simp] theorem returns_c (s : State) (r : StepReturn) : (s.returns r).c = s.c := rfl
@[simp] theorem returns_d (s : State) (r : StepReturn) : (s.returns r).d = s.d := rfl
@[simp] theorem returns_e (s : State) (r : StepReturn) : (s.returns r).e = s.e := rfl
@[simp] theorem returns_h (s : State) (r : StepReturn) : (s.returns r).h = s.h := rfl
@[simp] theorem returns_l (s : State) (r : StepReturn) : (s.returns r).l = s.l := rfl
@[simp] theorem returns_a (s : State) (r : StepReturn) : (s.returns r).a = s.a := rfl
@[simp] theorem returns_flags (s : State) (r : StepReturn) : (s.returns r).flags = s.flags := rfl
@[simp] theorem returns_pc (s : State) (r : StepReturn) : (s.returns r).pc = s.pc := rfl
@[simp] theorem returns_sp (s : State) (r : StepReturn) : (s.returns r).sp = s.sp := rfl
@[simp] theorem returns_inte (s : State) (r : StepReturn) : (s.returns r).inte = s.inte := rfl
@[simp] theorem returns_halted (s : State) (r : StepReturn) : (s.returns r).halted = s.halted := rfl
@[simp] theorem returns_faulted (s : State) (r : StepReturn) : (s.returns r).faulted = s.faulted := rfl
@[simp] theorem returns_mem (s : State) (r : StepReturn) : (s.returns r).mem = s.mem := rfl
@[simp] theorem returns_params (s : State) (r : StepReturn) : (s.returns r).params = s.params := rfl
@[simp] theorem returns_lastReturn (s : State) (r : StepReturn) : (s.returns r).lastReturn = r := rfl
@[simp] theorem returns_portCalls (s : State) (r : StepReturn) : (s.returns r).portCalls = s.portCalls := rfl
@[simp] theorem returns_portAnswers (s : State) (r : StepReturn) : (s.returns r).portAnswers = s.portAnswers := rfl

/-! ### push16: `push16` -/

@[simp] theorem push16_b (s : State) (v : Word) : (s.push16 v).b = s.b := rfl
@[simp] theorem push16_c (s : State) (v : Word) : (s.push16 v).c = s.c := rfl
@[simp] theorem push16_d (s : State) (v : Word) : (s.push16 v).d = s.d := rfl
@[simp] theorem push16_e (s : State) (v : Word) : (s.push16 v).e = s.e := rfl
@[simp] theorem push16_h (s : State) (v : Word) : (s.push16 v).h = s.h := rfl
@[simp] theorem push16_l (s : State) (v : Word) : (s.push16 v).l = s.l := rfl
@[simp] theorem push16_a (s : State) (v : Word) : (s.push16 v).a = s.a := rfl
@[simp] theorem push16_flags (s : State) (v : Word) : (s.push16 v).flags = s.flags := rfl
@[simp] theorem push16_pc (s : State) (v : Word) : (s.push16 v).pc = s.pc := rfl
@[simp] theorem push16_sp (s : State) (v : Word) : (s.push16 v).sp = s.sp - 2 := rfl
@[simp] theorem push16_inte (s : State) (v : Word) : (s.push16 v).inte = s.inte := rfl
@[simp] theorem push16_halted (s : State) (v : Word) : (s.push16 v).halted = s.halted := rfl
@[simp] theorem push16_faulted (s : State) (v : Word) : (s.push16 v).faulted = s.faulted := rfl
@[simp] theorem push16_mem (s : State) (v : Word) : (s.push16 v).mem = (s.mem.write (s.sp - 1) (hiByte v)).write (s.sp - 2) (loByte v) := rfl
@[simp] theorem push16_params (s : State) (v : Word) : (s.push16 v).params = s.params := rfl
@[simp] theorem push16_lastReturn (s : State) (v : Word) : (s.push16 v).lastReturn = s.lastReturn := rfl
@[simp] theorem push16_portCalls (s : State) (v : Word) : (s.push16 v).portCalls = s.portCalls := rfl
@[simp] theorem push16_portAnswers (s : State) (v : Word) : (s.push16 v).portAnswers = s.portAnswers := rfl

/-! ### dropTop: `pop16` -/

@[simp] theorem dropTop_b (s : State) : (s.dropTop).b = s.b := rfl
@[simp] theorem dropTop_c (s : State) : (s.dropTop).c = s.c := rfl
@[simp] theorem dropTop_d (s : State) : (s.dropTop).d = s.d := rfl
@[simp] theorem dropTop_e (s : State) : (s.dropTop).e = s.e := rfl
@[simp] theorem dropTop_h (s : State) : (s.dropTop).h = s.h := rfl
@[simp] theorem dropTop_l (s : State) : (s.dropTop).l = s.l := rfl
@[simp] theorem dropTop_a (s : State) : (s.dropTop).a = s.a := rfl
@[simp] theorem dropTop_flags (s : State) : (s.dropTop).flags = s.flags := rfl
@[simp] theorem dropTop_pc (s : State) : (s.dropTop).pc = s.pc := rfl
@[simp] theorem dropTop_sp (s : State) : (s.dropTop).sp = s.sp + 2 := rfl
@[simp] theorem dropTop_inte (s : State) : (s.dropTop).inte = s.inte := rfl
@[simp] theorem dropTop_halted (s : State) : (s.dropTop).halted = s.halted := rfl
@[simp] theorem dropTop_faulted (s : State) : (s.dropTop).faulted = s.faulted := rfl
@[simp] theorem dropTop_mem (s : State) : (s.dropTop).mem = s.mem := rfl
@[simp] theorem dropTop_params (s : State) : (s.dropTop).params = s.params := rfl
@[simp] theorem dropTop_lastReturn (s : State) : (s.dropTop).lastReturn = s.lastReturn := rfl
@[simp] theorem dropTop_portCalls (s : State) : (s.dropTop).portCalls = s.portCalls := rfl
@[simp] theorem dropTop_portAnswers (s : State) : (s.dropTop).portAnswers = s.portAnswers := rfl

/-! ### portIn: `PortIn` -/

@[simp] theorem portIn_b (s : State) (port : Byte) : (s.portIn port).b = s.b := rfl
@[simp] theorem portIn_c (s : State) (port : Byte) : (s.portIn port).c = s.c := rfl
@[simp] theorem portIn_d (s : State) (port : Byte) : (s.portIn port).d = s.d := rfl
@[simp] theorem portIn_e (s : State) (port : Byte) : (s.portIn port).e = s.e := rfl
@[simp] theorem portIn_h (s : State) (port : Byte) : (s.portIn port).h = s.h := rfl
@[simp] theorem portIn_l (s : State) (port : Byte) : (s.portIn port).l = s.l := rfl
@[simp] theorem portIn_a (s : State) (port : Byte) : (s.portIn port).a = s.a := rfl
@[simp] theorem portIn_flags (s : State) (port : Byte) : (s.portIn port).flags = s.flags := rfl
@[simp] theorem portIn_pc (s : State) (port : Byte) : (s.portIn port).pc = s.pc := rfl
@[simp] theorem portIn_sp (s : State) (port : Byte) : (s.portIn port).sp = s.sp := rfl
@[simp] theorem portIn_inte (s : State) (port : Byte) : (s.portIn port).inte = s.inte := rfl
@[simp] theorem portIn_halted (s : State) (port : Byte) : (s.portIn port).halted = s.halted := rfl
@[simp] theorem portIn_faulted (s : State) (port : Byte) : (s.portIn port).faulted = s.faulted := rfl
@[simp] theorem portIn_mem (s : State) (port : Byte) : (s.portIn port).mem = s.mem := rfl
@[simp] theorem portIn_params (s : State) (port : Byte) : (s.portIn port).params = s.params := rfl
@[simp] theorem portIn_lastReturn (s : State) (port : Byte) : (s.portIn port).lastReturn = s.lastReturn := rfl
@[simp] theorem portIn_portCalls (s : State) (port : Byte) : (s.portIn port).portCalls = s.portCalls ++ [.input port (s.portAnswer port)] := rfl
@[simp] theorem portIn_portAnswers (s : State) (port : Byte) : (s.portIn port).portAnswers = s.portAnswers.tail := rfl

/-! ### portOut: `PortOut` -/

@[simp] theorem portOut_b (s : State) (port v : Byte) : (s.portOut port v).b = s.b := rfl
@[simp] theorem portOut_c (s : State) (port v : Byte) : (s.portOut port v).c = s.c := rfl
@[simp] theorem portOut_d (s : State) (port v : Byte) : (s.portOut port v).d = s.d := rfl
@[simp] theorem portOut_e (s : State) (port v : Byte) : (s.portOut port v).e = s.e := rfl
@[simp] theorem portOut_h (s : State) (port v : Byte) : (s.portOut port v).h = s.h := rfl
@[simp] theorem portOut_l (s : State) (port v : Byte) : (s.portOut port v).l = s.l := rfl
@[simp] theorem portOut_a (s : State) (port v : Byte) : (s.portOut port v).a = s.a := rfl
@[simp] theorem portOut_flags (s : State) (port v : Byte) : (s.portOut port v).flags = s.flags := rfl
@[simp] theorem portOut_pc (s : State) (port v : Byte) : (s.portOut port v).pc = s.pc := rfl
@[simp] theorem portOut_sp (s : State) (port v : Byte) : (s.portOut port v).sp = s.sp := rfl
@[simp] theorem portOut_inte (s : State) (port v : Byte) : (s.portOut port v).inte = s.inte := rfl
@[simp] theorem portOut_halted (s : State) (port v : Byte) : (s.portOut port v).halted = s.halted := rfl
@[simp] theorem portOut_faulted (s : State) (port v : Byte) : (s.portOut port v).faulted = s.faulted := rfl
@[simp] theorem portOut_mem (s : State) (port v : Byte) : (s.portOut port v).mem = s.mem := rfl
@[simp] theorem portOut_params (s : State) (port v : Byte) : (s.portOut port v).params = s.params := rfl
@[simp] theorem portOut_lastReturn (s : State) (port v : Byte) : (s.portOut port v).lastReturn = s.lastReturn := rfl
@[simp] theorem portOut_portCalls (s : State) (port v : Byte) : (s.portOut port v).portCalls = s.portCalls ++ [.output port v] := rfl
@[simp] theorem portOut_portAnswers (s : State) (port v : Byte) : (s.portOut port v).portAnswers = s.portAnswers := rfl

/-! ### raiseDecodeFault: taking the decode fault -/

@[simp] theorem raiseDecodeFault_b (s : State) (op : Byte) (x : Word) : (s.raiseDecodeFault op x).b = s.b := rfl
@[simp] theorem raiseDecodeFault_c (s : State) (op : Byte) (x : Word) : (s.raiseDecodeFault op x).c = s.c := rfl
@[simp] theorem raiseDecodeFault_d (s : State) (op : Byte) (x : Word) : (s.raiseDecodeFault op x).d = s.d := rfl
@[simp] theorem raiseDecodeFault_e (s : State) (op : Byte) (x : Word) : (s.raiseDecodeFault op x).e = s.e := rfl
@[simp] theorem raiseDecodeFault_h (s : State) (op : Byte) (x : Word) : (s.raiseDecodeFault op x).h = s.h := rfl
@[simp] theorem raiseDecodeFault_l (s : State) (op : Byte) (x : Word) : (s.raiseDecodeFault op x).l = s.l := rfl
@[simp] theorem raiseDecodeFault_a (s : State) (op : Byte) (x : Word) : (s.raiseDecodeFault op x).a = s.a := rfl
@[simp] theorem raiseDecodeFault_flags (s : State) (op : Byte) (x : Word) : (s.raiseDecodeFault op x).flags = s.flags := rfl
@[simp] theorem raiseDecodeFault_pc (s : State) (op : Byte) (x : Word) : (s.raiseDecodeFault op x).pc = s.pc := rfl
@[simp] theorem raiseDecodeFault_sp (s : State) (op : Byte) (x : Word) : (s.raiseDecodeFault op x).sp = s.sp := rfl
@[simp] theorem raiseDecodeFault_inte (s : State) (op : Byte) (x : Word) : (s.raiseDecodeFault op x).inte = s.inte := rfl
@[simp] theorem raiseDecodeFault_halted (s : State) (op : Byte) (x : Word) : (s.raiseDecodeFault op x).halted = s.halted := rfl
@[simp] theorem raiseDecodeFault_faulted (s : State) (op : Byte) (x : Word) : (s.raiseDecodeFault op x).faulted = some ⟨op, x⟩ := rfl
@[simp] theorem raiseDecodeFault_mem (s : State) (op : Byte) (x : Word) : (s.raiseDecodeFault op x).mem = s.mem := rfl
@[simp] theorem raiseDecodeFault_params (s : State) (op : Byte) (x : Word) : (s.raiseDecodeFault op x).params = s.params := rfl
@[simp] theorem raiseDecodeFault_lastReturn (s : State) (op : Byte) (x : Word) : (s.raiseDecodeFault op x).lastReturn = .fault ⟨op, x⟩ := rfl
@[simp] theorem raiseDecodeFault_portCalls (s : State) (op : Byte) (x : Word) : (s.raiseDecodeFault op x).portCalls = s.portCalls := rfl
@[simp] theorem raiseDecodeFault_portAnswers (s : State) (op : Byte) (x : Word) : (s.raiseDecodeFault op x).portAnswers = s.portAnswers := rfl

/-! ### setReg: a register write -/

@[simp] theorem setReg_flags (s : State) (r : Reg) (v : Byte) : (s.setReg r v).flags = s.flags := by cases r <;> rfl
@[simp] theorem setReg_pc (s : State) (r : Reg) (v : Byte) : (s.setReg r v).pc = s.pc := by cases r <;> rfl
@[simp] theorem setReg_sp (s : State) (r : Reg) (v : Byte) : (s.setReg r v).sp = s.sp := by cases r <;> rfl
@[simp] theorem setReg_inte (s : State) (r : Reg) (v : Byte) : (s.setReg r v).inte = s.inte := by cases r <;> rfl
@[simp] theorem setReg_halted (s : State) (r : Reg) (v : Byte) : (s.setReg r v).halted = s.halted := by cases r <;> rfl
@[simp] theorem setReg_faulted (s : State) (r : Reg) (v : Byte) : (s.setReg r v).faulted = s.faulted := by cases r <;> rfl
@[simp] theorem setReg_mem (s : State) (r : Reg) (v : Byte) : (s.setReg r v).mem = s.mem := by cases r <;> rfl
@[simp] theorem setReg_params (s : State) (r : Reg) (v : Byte) : (s.setReg r v).params = s.params := by cases r <;> rfl
@[simp] theorem setReg_lastReturn (s : State) (r : Reg) (v : Byte) : (s.setReg r v).lastReturn = s.lastReturn := by cases r <;> rfl
@[simp] theorem setReg_portCalls (s : State) (r : Reg) (v : Byte) : (s.setReg r v).portCalls = s.portCalls := by cases r <;> rfl
@[simp] theorem setReg_portAnswers (s : State) (r : Reg) (v : Byte) : (s.setReg r v).portAnswers = s.portAnswers := by cases r <;> rfl

/-! ### setRp: a pair or sp write -/

@[simp] theorem setRp_flags (s : State) (rp : Rp) (v : Word) : (s.setRp rp v).flags = s.flags := by cases rp <;> rfl
@[simp] theorem setRp_pc (s : State) (rp : Rp) (v : Word) : (s.setRp rp v).pc = s.pc := by cases rp <;> rfl
@[simp] theorem setRp_inte (s : State) (rp : Rp) (v : Word) : (s.setRp rp v).inte = s.inte := by cases rp <;> rfl
@[simp] theorem setRp_halted (s : State) (rp : Rp) (v : Word) : (s.setRp rp v).halted = s.halted := by cases rp <;> rfl
@[simp] theorem setRp_faulted (s : State) (rp : Rp) (v : Word) : (s.setRp rp v).faulted = s.faulted := by cases rp <;> rfl
@[simp] theorem setRp_mem (s : State) (rp : Rp) (v : Word) : (s.setRp rp v).mem = s.mem := by cases rp <;> rfl
@[simp] theorem setRp_params (s : State) (rp : Rp) (v : Word) : (s.setRp rp v).params = s.params := by cases rp <;> rfl
@[simp] theorem setRp_lastReturn (s : State) (rp : Rp) (v : Word) : (s.setRp rp v).lastReturn = s.lastReturn := by cases rp <;> rfl
@[simp] theorem setRp_portCalls (s : State) (rp : Rp) (v : Word) : (s.setRp rp v).portCalls = s.portCalls := by cases rp <;> rfl
@[simp] theorem setRp_portAnswers (s : State) (rp : Rp) (v : Word) : (s.setRp rp v).portAnswers = s.portAnswers := by cases rp <;> rfl

/-! ### setPsw: a write of PSW -/

@[simp] theorem setPsw_b (s : State) (v : Word) : (s.setPsw v).b = s.b := rfl
@[simp] theorem setPsw_c (s : State) (v : Word) : (s.setPsw v).c = s.c := rfl
@[simp] theorem setPsw_d (s : State) (v : Word) : (s.setPsw v).d = s.d := rfl
@[simp] theorem setPsw_e (s : State) (v : Word) : (s.setPsw v).e = s.e := rfl
@[simp] theorem setPsw_h (s : State) (v : Word) : (s.setPsw v).h = s.h := rfl
@[simp] theorem setPsw_l (s : State) (v : Word) : (s.setPsw v).l = s.l := rfl
@[simp] theorem setPsw_a (s : State) (v : Word) : (s.setPsw v).a = hiByte v := rfl
@[simp] theorem setPsw_flags (s : State) (v : Word) : (s.setPsw v).flags = Flags.ofByte (loByte v) := rfl
@[simp] theorem setPsw_pc (s : State) (v : Word) : (s.setPsw v).pc = s.pc := rfl
@[simp] theorem setPsw_sp (s : State) (v : Word) : (s.setPsw v).sp = s.sp := rfl
@[simp] theorem setPsw_inte (s : State) (v : Word) : (s.setPsw v).inte = s.inte := rfl
@[simp] theorem setPsw_halted (s : State) (v : Word) : (s.setPsw v).halted = s.halted := rfl
@[simp] theorem setPsw_faulted (s : State) (v : Word) : (s.setPsw v).faulted = s.faulted := rfl
@[simp] theorem setPsw_mem (s : State) (v : Word) : (s.setPsw v).mem = s.mem := rfl
@[simp] theorem setPsw_params (s : State) (v : Word) : (s.setPsw v).params = s.params := rfl
@[simp] theorem setPsw_lastReturn (s : State) (v : Word) : (s.setPsw v).lastReturn = s.lastReturn := rfl
@[simp] theorem setPsw_portCalls (s : State) (v : Word) : (s.setPsw v).portCalls = s.portCalls := rfl
@[simp] theorem setPsw_portAnswers (s : State) (v : Word) : (s.setPsw v).portAnswers = s.portAnswers := rfl

/-! ### setCy: a write of CY -/

@[simp] theorem setCy_b (s : State) (x : Bool) : (s.setCy x).b = s.b := rfl
@[simp] theorem setCy_c (s : State) (x : Bool) : (s.setCy x).c = s.c := rfl
@[simp] theorem setCy_d (s : State) (x : Bool) : (s.setCy x).d = s.d := rfl
@[simp] theorem setCy_e (s : State) (x : Bool) : (s.setCy x).e = s.e := rfl
@[simp] theorem setCy_h (s : State) (x : Bool) : (s.setCy x).h = s.h := rfl
@[simp] theorem setCy_l (s : State) (x : Bool) : (s.setCy x).l = s.l := rfl
@[simp] theorem setCy_a (s : State) (x : Bool) : (s.setCy x).a = s.a := rfl
@[simp] theorem setCy_flags (s : State) (x : Bool) : (s.setCy x).flags = { s.flags with cy := x } := rfl
@[simp] theorem setCy_pc (s : State) (x : Bool) : (s.setCy x).pc = s.pc := rfl
@[simp] theorem setCy_sp (s : State) (x : Bool) : (s.setCy x).sp = s.sp := rfl
@[simp] theorem setCy_inte (s : State) (x : Bool) : (s.setCy x).inte = s.inte := rfl
@[simp] theorem setCy_halted (s : State) (x : Bool) : (s.setCy x).halted = s.halted := rfl
@[simp] theorem setCy_faulted (s : State) (x : Bool) : (s.setCy x).faulted = s.faulted := rfl
@[simp] theorem setCy_mem (s : State) (x : Bool) : (s.setCy x).mem = s.mem := rfl
@[simp] theorem setCy_params (s : State) (x : Bool) : (s.setCy x).params = s.params := rfl
@[simp] theorem setCy_lastReturn (s : State) (x : Bool) : (s.setCy x).lastReturn = s.lastReturn := rfl
@[simp] theorem setCy_portCalls (s : State) (x : Bool) : (s.setCy x).portCalls = s.portCalls := rfl
@[simp] theorem setCy_portAnswers (s : State) (x : Bool) : (s.setCy x).portAnswers = s.portAnswers := rfl

/-! ### addA: an addition into A -/

@[simp] theorem addA_b (s : State) (v : Byte) (x : Bool) : (s.addA v x).b = s.b := rfl
@[simp] theorem addA_c (s : State) (v : Byte) (x : Bool) : (s.addA v x).c = s.c := rfl
@[simp] theorem addA_d (s : State) (v : Byte) (x : Bool) : (s.addA v x).d = s.d := rfl
@[simp] theorem addA_e (s : State) (v : Byte) (x : Bool) : (s.addA v x).e = s.e := rfl
@[simp] theorem addA_h (s : State) (v : Byte) (x : Bool) : (s.addA v x).h = s.h := rfl
@[simp] theorem addA_l (s : State) (v : Byte) (x : Bool) : (s.addA v x).l = s.l := rfl
@[simp] theorem addA_a (s : State) (v : Byte) (x : Bool) : (s.addA v x).a = (add8 s.a v x).res := rfl
@[simp] theorem addA_flags (s : State) (v : Byte) (x : Bool) : (s.addA v x).flags = s.flags.setflags (add8 s.a v x) := rfl
@[simp] theorem addA_pc (s : State) (v : Byte) (x : Bool) : (s.addA v x).pc = s.pc := rfl
@[simp] theorem addA_sp (s : State) (v : Byte) (x : Bool) : (s.addA v x).sp = s.sp := rfl
@[simp] theorem addA_inte (s : State) (v : Byte) (x : Bool) : (s.addA v x).inte = s.inte := rfl
@[simp] theorem addA_halted (s : State) (v : Byte) (x : Bool) : (s.addA v x).halted = s.halted := rfl
@[simp] theorem addA_faulted (s : State) (v : Byte) (x : Bool) : (s.addA v x).faulted = s.faulted := rfl
@[simp] theorem addA_mem (s : State) (v : Byte) (x : Bool) : (s.addA v x).mem = s.mem := rfl
@[simp] theorem addA_params (s : State) (v : Byte) (x : Bool) : (s.addA v x).params = s.params := rfl
@[simp] theorem addA_lastReturn (s : State) (v : Byte) (x : Bool) : (s.addA v x).lastReturn = s.lastReturn := rfl
@[simp] theorem addA_portCalls (s : State) (v : Byte) (x : Bool) : (s.addA v x).portCalls = s.portCalls := rfl
@[simp] theorem addA_portAnswers (s : State) (v : Byte) (x : Bool) : (s.addA v x).portAnswers = s.portAnswers := rfl

/-! ### subA: a subtraction from A -/

@[simp] theorem subA_b (s : State) (v : Byte) (x : Bool) : (s.subA v x).b = s.b := rfl
@[simp] theorem subA_c (s : State) (v : Byte) (x : Bool) : (s.subA v x).c = s.c := rfl
@[simp] theorem subA_d (s : State) (v : Byte) (x : Bool) : (s.subA v x).d = s.d := rfl
@[simp] theorem subA_e (s : State) (v : Byte) (x : Bool) : (s.subA v x).e = s.e := rfl
@[simp] theorem subA_h (s : State) (v : Byte) (x : Bool) : (s.subA v x).h = s.h := rfl
@[simp] theorem subA_l (s : State) (v : Byte) (x : Bool) : (s.subA v x).l = s.l := rfl
@[simp] theorem subA_a (s : State) (v : Byte) (x : Bool) : (s.subA v x).a = (sub8 s.a v x).res := rfl
@[simp] theorem subA_flags (s : State) (v : Byte) (x : Bool) : (s.subA v x).flags = s.flags.setflags (sub8 s.a v x) := rfl
@[simp] theorem subA_pc (s : State) (v : Byte) (x : Bool) : (s.subA v x).pc = s.pc := rfl
@[simp] theorem subA_sp (s : State) (v : Byte) (x : Bool) : (s.subA v x).sp = s.sp := rfl
@[simp] theorem subA_inte (s : State) (v : Byte) (x : Bool) : (s.subA v x).inte = s.inte := rfl
@[simp] theorem subA_halted (s : State) (v : Byte) (x : Bool) : (s.subA v x).halted = s.halted := rfl
@[simp] theorem subA_faulted (s : State) (v : Byte) (x : Bool) : (s.subA v x).faulted = s.faulted := rfl
@[simp] theorem subA_mem (s : State) (v : Byte) (x : Bool) : (s.subA v x).mem = s.mem := rfl
@[simp] theorem subA_params (s : State) (v : Byte) (x : Bool) : (s.subA v x).params = s.params := rfl
@[simp] theorem subA_lastReturn (s : State) (v : Byte) (x : Bool) : (s.subA v x).lastReturn = s.lastReturn := rfl
@[simp] theorem subA_portCalls (s : State) (v : Byte) (x : Bool) : (s.subA v x).portCalls = s.portCalls := rfl
@[simp] theorem subA_portAnswers (s : State) (v : Byte) (x : Bool) : (s.subA v x).portAnswers = s.portAnswers := rfl

/-! ### cmpA: a comparison -/

@[simp] theorem cmpA_b (s : State) (v : Byte) : (s.cmpA v).b = s.b := rfl
@[simp] theorem cmpA_c (s : State) (v : Byte) : (s.cmpA v).c = s.c := rfl
@[simp] theorem cmpA_d (s : State) (v : Byte) : (s.cmpA v).d = s.d := rfl
@[simp] theorem cmpA_e (s : State) (v : Byte) : (s.cmpA v).e = s.e := rfl
@[simp] theorem cmpA_h (s : State) (v : Byte) : (s.cmpA v).h = s.h := rfl
@[simp] theorem cmpA_l (s : State) (v : Byte) : (s.cmpA v).l = s.l := rfl
@[simp] theorem cmpA_a (s : State) (v : Byte) : (s.cmpA v).a = s.a := rfl
@[simp] theorem cmpA_flags (s : State) (v : Byte) : (s.cmpA v).flags = s.flags.setflags (sub8 s.a v false) := rfl
@[simp] theorem cmpA_pc (s : State) (v : Byte) : (s.cmpA v).pc = s.pc := rfl
@[simp] theorem cmpA_sp (s : State) (v : Byte) : (s.cmpA v).sp = s.sp := rfl
@[simp] theorem cmpA_inte (s : State) (v : Byte) : (s.cmpA v).inte = s.inte := rfl
@[simp] theorem cmpA_halted (s : State) (v : Byte) : (s.cmpA v).halted = s.halted := rfl
@[simp] theorem cmpA_faulted (s : State) (v : Byte) : (s.cmpA v).faulted = s.faulted := rfl
@[simp] theorem cmpA_mem (s : State) (v : Byte) : (s.cmpA v).mem = s.mem := rfl
@[simp] theorem cmpA_params (s : State) (v : Byte) : (s.cmpA v).params = s.params := rfl
@[simp] theorem cmpA_lastReturn (s : State) (v : Byte) : (s.cmpA v).lastReturn = s.lastReturn := rfl
@[simp] theorem cmpA_portCalls (s : State) (v : Byte) : (s.cmpA v).portCalls = s.portCalls := rfl
@[simp] theorem cmpA_portAnswers (s : State) (v : Byte) : (s.cmpA v).portAnswers = s.portAnswers := rfl

/-! ### andA: AND -/

@[simp] theorem andA_b (s : State) (v : Byte) : (s.andA v).b = s.b := rfl
@[simp] theorem andA_c (s : State) (v : Byte) : (s.andA v).c = s.c := rfl
@[simp] theorem andA_d (s : State) (v : Byte) : (s.andA v).d = s.d := rfl
@[simp] theorem andA_e (s : State) (v : Byte) : (s.andA v).e = s.e := rfl
@[simp] theorem andA_h (s : State) (v : Byte) : (s.andA v).h = s.h := rfl
@[simp] theorem andA_l (s : State) (v : Byte) : (s.andA v).l = s.l := rfl
@[simp] theorem andA_a (s : State) (v : Byte) : (s.andA v).a = s.a &&& v := rfl
@[simp] theorem andA_pc (s : State) (v : Byte) : (s.andA v).pc = s.pc := rfl
@[simp] theorem andA_sp (s : State) (v : Byte) : (s.andA v).sp = s.sp := rfl
@[simp] theorem andA_inte (s : State) (v : Byte) : (s.andA v).inte = s.inte := rfl
@[simp] theorem andA_halted (s : State) (v : Byte) : (s.andA v).halted = s.halted := rfl
@[simp] theorem andA_faulted (s : State) (v : Byte) : (s.andA v).faulted = s.faulted := rfl
@[simp] theorem andA_mem (s : State) (v : Byte) : (s.andA v).mem = s.mem := rfl
@[simp] theorem andA_params (s : State) (v : Byte) : (s.andA v).params = s.params := rfl
@[simp] theorem andA_lastReturn (s : State) (v : Byte) : (s.andA v).lastReturn = s.lastReturn := rfl
@[simp] theorem andA_portCalls (s : State) (v : Byte) : (s.andA v).portCalls = s.portCalls := rfl
@[simp] theorem andA_portAnswers (s : State) (v : Byte) : (s.andA v).portAnswers = s.portAnswers := rfl

/-! ### xorA: exclusive OR -/

@[simp] theorem xorA_b (s : State) (v : Byte) : (s.xorA v).b = s.b := rfl
@[simp] theorem xorA_c (s : State) (v : Byte) : (s.xorA v).c = s.c := rfl
@[simp] theorem xorA_d (s : State) (v : Byte) : (s.xorA v).d = s.d := rfl
@[simp] theorem xorA_e (s : State) (v : Byte) : (s.xorA v).e = s.e := rfl
@[simp] theorem xorA_h (s : State) (v : Byte) : (s.xorA v).h = s.h := rfl
@[simp] theorem xorA_l (s : State) (v : Byte) : (s.xorA v).l = s.l := rfl
@[simp] theorem xorA_a (s : State) (v : Byte) : (s.xorA v).a = s.a ^^^ v := rfl
@[simp] theorem xorA_pc (s : State) (v : Byte) : (s.xorA v).pc = s.pc := rfl
@[simp] theorem xorA_sp (s : State) (v : Byte) : (s.xorA v).sp = s.sp := rfl
@[simp] theorem xorA_inte (s : State) (v : Byte) : (s.xorA v).inte = s.inte := rfl
@[simp] theorem xorA_halted (s : State) (v : Byte) : (s.xorA v).halted = s.halted := rfl
@[simp] theorem xorA_faulted (s : State) (v : Byte) : (s.xorA v).faulted = s.faulted := rfl
@[simp] theorem xorA_mem (s : State) (v : Byte) : (s.xorA v).mem = s.mem := rfl
@[simp] theorem xorA_params (s : State) (v : Byte) : (s.xorA v).params = s.params := rfl
@[simp] theorem xorA_lastReturn (s : State) (v : Byte) : (s.xorA v).lastReturn = s.lastReturn := rfl
@[simp] theorem xorA_portCalls (s : State) (v : Byte) : (s.xorA v).portCalls = s.portCalls := rfl
@[simp] theorem xorA_portAnswers (s : State) (v : Byte) : (s.xorA v).portAnswers = s.portAnswers := rfl

/-! ### orA: OR -/

@[simp] theorem orA_b (s : State) (v : Byte) : (s.orA v).b = s.b := rfl
@[simp] theorem orA_c (s : State) (v : Byte) : (s.orA v).c = s.c := rfl
@[simp] theorem orA_d (s : State) (v : Byte) : (s.orA v).d = s.d := rfl
@[simp] theorem orA_e (s : State) (v : Byte) : (s.orA v).e = s.e := rfl
@[simp] theorem orA_h (s : State) (v : Byte) : (s.orA v).h = s.h := rfl
@[simp] theorem orA_l (s : State) (v : Byte) : (s.orA v).l = s.l := rfl
@[simp] theorem orA_a (s : State) (v : Byte) : (s.orA v).a = s.a ||| v := rfl
@[simp] theorem orA_pc (s : State) (v : Byte) : (s.orA v).pc = s.pc := rfl
@[simp] theorem orA_sp (s : State) (v : Byte) : (s.orA v).sp = s.sp := rfl
@[simp] theorem orA_inte (s : State) (v : Byte) : (s.orA v).inte = s.inte := rfl
@[simp] theorem orA_halted (s : State) (v : Byte) : (s.orA v).halted = s.halted := rfl
@[simp] theorem orA_faulted (s : State) (v : Byte) : (s.orA v).faulted = s.faulted := rfl
@[simp] theorem orA_mem (s : State) (v : Byte) : (s.orA v).mem = s.mem := rfl
@[simp] theorem orA_params (s : State) (v : Byte) : (s.orA v).params = s.params := rfl
@[simp] theorem orA_lastReturn (s : State) (v : Byte) : (s.orA v).lastReturn = s.lastReturn := rfl
@[simp] theorem orA_portCalls (s : State) (v : Byte) : (s.orA v).portCalls = s.portCalls := rfl
@[simp] theorem orA_portAnswers (s : State) (v : Byte) : (s.orA v).portAnswers = s.portAnswers := rfl

/-! ### daa: DAA -/

@[simp] theorem daa_b (s : State) : (s.daa).b = s.b := rfl
@[simp] theorem daa_c (s : State) : (s.daa).c = s.c := rfl
@[simp] theorem daa_d (s : State) : (s.daa).d = s.d := rfl
@[simp] theorem daa_e (s : State) : (s.daa).e = s.e := rfl
@[simp] theorem daa_h (s : State) : (s.daa).h = s.h := rfl
@[simp] theorem daa_l (s : State) : (s.daa).l = s.l := rfl
@[simp] theorem daa_pc (s : State) : (s.daa).pc = s.pc := rfl
@[simp] theorem daa_sp (s : State) : (s.daa).sp = s.sp := rfl
@[simp] theorem daa_inte (s : State) : (s.daa).inte = s.inte := rfl
@[simp] theorem daa_halted (s : State) : (s.daa).halted = s.halted := rfl
@[simp] theorem daa_faulted (s : State) : (s.daa).faulted = s.faulted := rfl
@[simp] theorem daa_mem (s : State) : (s.daa).mem = s.mem := rfl
@[simp] theorem daa_params (s : State) : (s.daa).params = s.params := rfl
@[simp] theorem daa_lastReturn (s : State) : (s.daa).lastReturn = s.lastReturn := rfl
@[simp] theorem daa_portCalls (s : State) : (s.daa).portCalls = s.portCalls := rfl
@[simp] theorem daa_portAnswers (s : State) : (s.daa).portAnswers = s.portAnswers := rfl

/-! ### rlc: RLC -/

@[simp] theorem rlc_b (s : State) : (s.rlc).b = s.b := rfl
@[simp] theorem rlc_c (s : State) : (s.rlc).c = s.c := rfl
@[simp] theorem rlc_d (s : State) : (s.rlc).d = s.d := rfl
@[simp] theorem rlc_e (s : State) : (s.rlc).e = s.e := rfl
@[simp] theorem rlc_h (s : State) : (s.rlc).h = s.h := rfl
@[simp] theorem rlc_l (s : State) : (s.rlc).l = s.l := rfl
@[simp] theorem rlc_pc (s : State) : (s.rlc).pc = s.pc := rfl
@[simp] theorem rlc_sp (s : State) : (s.rlc).sp = s.sp := rfl
@[simp] theorem rlc_inte (s : State) : (s.rlc).inte = s.inte := rfl
@[simp] theorem rlc_halted (s : State) : (s.rlc).halted = s.halted := rfl
@[simp] theorem rlc_faulted (s : State) : (s.rlc).faulted = s.faulted := rfl
@[simp] theorem rlc_mem (s : State) : (s.rlc).mem = s.mem := rfl
@[simp] theorem rlc_params (s : State) : (s.rlc).params = s.params := rfl
@[simp] theorem rlc_lastReturn (s : State) : (s.rlc).lastReturn = s.lastReturn := rfl
@[simp] theorem rlc_portCalls (s : State) : (s.rlc).portCalls = s.portCalls := rfl
@[simp] theorem rlc_portAnswers (s : State) : (s.rlc).portAnswers = s.portAnswers := rfl

/-! ### rrc: RRC -/

@[simp] theorem rrc_b (s : State) : (s.rrc).b = s.b := rfl
@[simp] theorem rrc_c (s : State) : (s.rrc).c = s.c := rfl
@[simp] theorem rrc_d (s : State) : (s.rrc).d = s.d := rfl
@[simp] theorem rrc_e (s : State) : (s.rrc).e = s.e := rfl
@[simp] theorem rrc_h (s : State) : (s.rrc).h = s.h := rfl
@[simp] theorem rrc_l (s : State) : (s.rrc).l = s.l := rfl
@[simp] theorem rrc_pc (s : State) : (s.rrc).pc = s.pc := rfl
@[simp] theorem rrc_sp (s : State) : (s.rrc).sp = s.sp := rfl
@[simp] theorem rrc_inte (s : State) : (s.rrc).inte = s.inte := rfl
@[simp] theorem rrc_halted (s : State) : (s.rrc).halted = s.halted := rfl
@[simp] theorem rrc_faulted (s : State) : (s.rrc).faulted = s.faulted := rfl
@[simp] theorem rrc_mem (s : State) : (s.rrc).mem = s.mem := rfl
@[simp] theorem rrc_params (s : State) : (s.rrc).params = s.params := rfl
@[simp] theorem rrc_lastReturn (s : State) : (s.rrc).lastReturn = s.lastReturn := rfl
@[simp] theorem rrc_portCalls (s : State) : (s.rrc).portCalls = s.portCalls := rfl
@[simp] theorem rrc_portAnswers (s : State) : (s.rrc).portAnswers = s.portAnswers := rfl

/-! ### ral: RAL -/

@[simp] theorem ral_b (s : State) : (s.ral).b = s.b := rfl
@[simp] theorem ral_c (s : State) : (s.ral).c = s.c := rfl
@[simp] theorem ral_d (s : State) : (s.ral).d = s.d := rfl
@[simp] theorem ral_e (s : State) : (s.ral).e = s.e := rfl
@[simp] theorem ral_h (s : State) : (s.ral).h = s.h := rfl
@[simp] theorem ral_l (s : State) : (s.ral).l = s.l := rfl
@[simp] theorem ral_pc (s : State) : (s.ral).pc = s.pc := rfl
@[simp] theorem ral_sp (s : State) : (s.ral).sp = s.sp := rfl
@[simp] theorem ral_inte (s : State) : (s.ral).inte = s.inte := rfl
@[simp] theorem ral_halted (s : State) : (s.ral).halted = s.halted := rfl
@[simp] theorem ral_faulted (s : State) : (s.ral).faulted = s.faulted := rfl
@[simp] theorem ral_mem (s : State) : (s.ral).mem = s.mem := rfl
@[simp] theorem ral_params (s : State) : (s.ral).params = s.params := rfl
@[simp] theorem ral_lastReturn (s : State) : (s.ral).lastReturn = s.lastReturn := rfl
@[simp] theorem ral_portCalls (s : State) : (s.ral).portCalls = s.portCalls := rfl
@[simp] theorem ral_portAnswers (s : State) : (s.ral).portAnswers = s.portAnswers := rfl

/-! ### rar: RAR -/

@[simp] theorem rar_b (s : State) : (s.rar).b = s.b := rfl
@[simp] theorem rar_c (s : State) : (s.rar).c = s.c := rfl
@[simp] theorem rar_d (s : State) : (s.rar).d = s.d := rfl
@[simp] theorem rar_e (s : State) : (s.rar).e = s.e := rfl
@[simp] theorem rar_h (s : State) : (s.rar).h = s.h := rfl
@[simp] theorem rar_l (s : State) : (s.rar).l = s.l := rfl
@[simp] theorem rar_pc (s : State) : (s.rar).pc = s.pc := rfl
@[simp] theorem rar_sp (s : State) : (s.rar).sp = s.sp := rfl
@[simp] theorem rar_inte (s : State) : (s.rar).inte = s.inte := rfl
@[simp] theorem rar_halted (s : State) : (s.rar).halted = s.halted := rfl
@[simp] theorem rar_faulted (s : State) : (s.rar).faulted = s.faulted := rfl
@[simp] theorem rar_mem (s : State) : (s.rar).mem = s.mem := rfl
@[simp] theorem rar_params (s : State) : (s.rar).params = s.params := rfl
@[simp] theorem rar_lastReturn (s : State) : (s.rar).lastReturn = s.lastReturn := rfl
@[simp] theorem rar_portCalls (s : State) : (s.rar).portCalls = s.portCalls := rfl
@[simp] theorem rar_portAnswers (s : State) : (s.rar).portAnswers = s.portAnswers := rfl

/-! ### addHl: DAD -/

@[simp] theorem addHl_b (s : State) (v : Word) : (s.addHl v).b = s.b := rfl
@[simp] theorem addHl_c (s : State) (v : Word) : (s.addHl v).c = s.c := rfl
@[simp] theorem addHl_d (s : State) (v : Word) : (s.addHl v).d = s.d := rfl
@[simp] theorem addHl_e (s : State) (v : Word) : (s.addHl v).e = s.e := rfl
@[simp] theorem addHl_h (s : State) (v : Word) : (s.addHl v).h = hiByte (s.hl + v) := rfl
@[simp] theorem addHl_l (s : State) (v : Word) : (s.addHl v).l = loByte (s.hl + v) := rfl
@[simp] theorem addHl_a (s : State) (v : Word) : (s.addHl v).a = s.a := rfl
@[simp] theorem addHl_flags (s : State) (v : Word) : (s.addHl v).flags = { s.flags with cy := decide (s.hl.toNat + v.toNat > 0xFFFF) } := rfl
@[simp] theorem addHl_pc (s : State) (v : Word) : (s.addHl v).pc = s.pc := rfl
@[simp] theorem addHl_sp (s : State) (v : Word) : (s.addHl v).sp = s.sp := rfl
@[simp] theorem addHl_inte (s : State) (v : Word) : (s.addHl v).inte = s.inte := rfl
@[simp] theorem addHl_halted (s : State) (v : Word) : (s.addHl v).halted = s.halted := rfl
@[simp] theorem addHl_faulted (s : State) (v : Word) : (s.addHl v).faulted = s.faulted := rfl
@[simp] theorem addHl_mem (s : State) (v : Word) : (s.addHl v).mem = s.mem := rfl
@[simp] theorem addHl_params (s : State) (v : Word) : (s.addHl v).params = s.params := rfl
@[simp] theorem addHl_lastReturn (s : State) (v : Word) : (s.addHl v).lastReturn = s.lastReturn := rfl
@[simp] theorem addHl_portCalls (s : State) (v : Word) : (s.addHl v).portCalls = s.portCalls := rfl
@[simp] theorem addHl_portAnswers (s : State) (v : Word) : (s.addHl v).portAnswers = s.portAnswers := rfl

/-! ### dst8: a write of a register or M -/

@[simp] theorem dst8_flags (s : State) (o : Operand8) (v : Byte) : (s.dst8 o v).flags = s.flags := by
  cases o with
  | reg r => cases r <;> rfl
  | m => rfl
@[simp] theorem dst8_pc (s : State) (o : Operand8) (v : Byte) : (s.dst8 o v).pc = s.pc := by
  cases o with
  | reg r => cases r <;> rfl
  | m => rfl
@[simp] theorem dst8_sp (s : State) (o : Operand8) (v : Byte) : (s.dst8 o v).sp = s.sp := by
  cases o with
  | reg r => cases r <;> rfl
  | m => rfl
@[simp] theorem dst8_inte (s : State) (o : Operand8) (v : Byte) : (s.dst8 o v).inte = s.inte := by
  cases o with
  | reg r => cases r <;> rfl
  | m => rfl
@[simp] theorem dst8_halted (s : State) (o : Operand8) (v : Byte) : (s.dst8 o v).halted = s.halted := by
  cases o with
  | reg r => cases r <;> rfl
  | m => rfl
@[simp] theorem dst8_faulted (s : State) (o : Operand8) (v : Byte) : (s.dst8 o v).faulted = s.faulted := by
  cases o with
  | reg r => cases r <;> rfl
  | m => rfl
@[simp] theorem dst8_params (s : State) (o : Operand8) (v : Byte) : (s.dst8 o v).params = s.params := by
  cases o with
  | reg r => cases r <;> rfl
  | m => rfl
@[simp] theorem dst8_lastReturn (s : State) (o : Operand8) (v : Byte) : (s.dst8 o v).lastReturn = s.lastReturn := by
  cases o with
  | reg r => cases r <;> rfl
  | m => rfl
@[simp] theorem dst8_portCalls (s : State) (o : Operand8) (v : Byte) : (s.dst8 o v).portCalls = s.portCalls := by
  cases o with
  | reg r => cases r <;> rfl
  | m => rfl
@[simp] theorem dst8_portAnswers (s : State) (o : Operand8) (v : Byte) : (s.dst8 o v).portAnswers = s.portAnswers := by
  cases o with
  | reg r => cases r <;> rfl
  | m => rfl

/-! ### inr8: INR -/

@[simp] theorem inr8_flags (s : State) (o : Operand8) : (s.inr8 o).flags = s.flags.inr (s.src8 o) := rfl
@[simp] theorem inr8_pc (s : State) (o : Operand8) : (s.inr8 o).pc = s.pc := dst8_pc s o _
@[simp] theorem inr8_sp (s : State) (o : Operand8) : (s.inr8 o).sp = s.sp := dst8_sp s o _
@[simp] theorem inr8_inte (s : State) (o : Operand8) : (s.inr8 o).inte = s.inte := dst8_inte s o _
@[simp] theorem inr8_halted (s : State) (o : Operand8) : (s.inr8 o).halted = s.halted := dst8_halted s o _
@[simp] theorem inr8_faulted (s : State) (o : Operand8) : (s.inr8 o).faulted = s.faulted := dst8_faulted s o _
@[simp] theorem inr8_params (s : State) (o : Operand8) : (s.inr8 o).params = s.params := dst8_params s o _
@[simp] theorem inr8_lastReturn (s : State) (o : Operand8) : (s.inr8 o).lastReturn = s.lastReturn := dst8_lastReturn s o _
@[simp] theorem inr8_portCalls (s : State) (o : Operand8) : (s.inr8 o).portCalls = s.portCalls := dst8_portCalls s o _
@[simp] theorem inr8_portAnswers (s : State) (o : Operand8) : (s.inr8 o).portAnswers = s.portAnswers := dst8_portAnswers s o _

/-! ### dcr8: DCR -/

@[simp] theorem dcr8_flags (s : State) (o : Operand8) : (s.dcr8 o).flags = s.flags.dcr (s.src8 o) := rfl
@[simp] theorem dcr8_pc (s : State) (o : Operand8) : (s.dcr8 o).pc = s.pc := dst8_pc s o _
@[simp] theorem dcr8_sp (s : State) (o : Operand8) : (s.dcr8 o).sp = s.sp := dst8_sp s o _
@[simp] theorem dcr8_inte (s : State) (o : Operand8) : (s.dcr8 o).inte = s.inte := dst8_inte s o _
@[simp] theorem dcr8_halted (s : State) (o : Operand8) : (s.dcr8 o).halted = s.halted := dst8_halted s o _
@[simp] theorem dcr8_faulted (s : State) (o : Operand8) : (s.dcr8 o).faulted = s.faulted := dst8_faulted s o _
@[simp] theorem dcr8_params (s : State) (o : Operand8) : (s.dcr8 o).params = s.params := dst8_params s o _
@[simp] theorem dcr8_lastReturn (s : State) (o : Operand8) : (s.dcr8 o).lastReturn = s.lastReturn := dst8_lastReturn s o _
@[simp] theorem dcr8_portCalls (s : State) (o : Operand8) : (s.dcr8 o).portCalls = s.portCalls := dst8_portCalls s o _
@[simp] theorem dcr8_portAnswers (s : State) (o : Operand8) : (s.dcr8 o).portAnswers = s.portAnswers := dst8_portAnswers s o _

/-! ### acceptInterrupt: interrupt acceptance -/

@[simp] theorem acceptInterrupt_b (s : State) : (s.acceptInterrupt).b = s.b := rfl
@[simp] theorem acceptInterrupt_c (s : State) : (s.acceptInterrupt).c = s.c := rfl
@[simp] theorem acceptInterrupt_d (s : State) : (s.acceptInterrupt).d = s.d := rfl
@[simp] theorem acceptInterrupt_e (s : State) : (s.acceptInterrupt).e = s.e := rfl
@[simp] theorem acceptInterrupt_h (s : State) : (s.acceptInterrupt).h = s.h := rfl
@[simp] theorem acceptInterrupt_l (s : State) : (s.acceptInterrupt).l = s.l := rfl
@[simp] theorem acceptInterrupt_a (s : State) : (s.acceptInterrupt).a = s.a := rfl
@[simp] theorem acceptInterrupt_flags (s : State) : (s.acceptInterrupt).flags = s.flags := rfl
@[simp] theorem acceptInterrupt_pc (s : State) : (s.acceptInterrupt).pc = s.params.intVector := rfl
@[simp] theorem acceptInterrupt_sp (s : State) : (s.acceptInterrupt).sp = s.sp - 2 := rfl
@[simp] theorem acceptInterrupt_inte (s : State) : (s.acceptInterrupt).inte = false := rfl
@[simp] theorem acceptInterrupt_halted (s : State) : (s.acceptInterrupt).halted = false := rfl
@[simp] theorem acceptInterrupt_faulted (s : State) : (s.acceptInterrupt).faulted = s.faulted := rfl
@[simp] theorem acceptInterrupt_mem (s : State) : (s.acceptInterrupt).mem = (s.mem.write (s.sp - 1) (hiByte s.pc)).write (s.sp - 2) (loByte s.pc) := rfl
@[simp] theorem acceptInterrupt_params (s : State) : (s.acceptInterrupt).params = s.params := rfl
@[simp] theorem acceptInterrupt_lastReturn (s : State) : (s.acceptInterrupt).lastReturn = s.lastReturn := rfl
@[simp] theorem acceptInterrupt_portCalls (s : State) : (s.acceptInterrupt).portCalls = s.portCalls := rfl
@[simp] theorem acceptInterrupt_portAnswers (s : State) : (s.acceptInterrupt).portAnswers = s.portAnswers := rfl

/-! ### callTo: a call -/

@[simp] theorem callTo_b (s : State) (x : Word) : (s.callTo x).b = s.b := rfl
@[simp] theorem callTo_c (s : State) (x : Word) : (s.callTo x).c = s.c := rfl
@[simp] theorem callTo_d (s : State) (x : Word) : (s.callTo x).d = s.d := rfl
@[simp] theorem callTo_e (s : State) (x : Word) : (s.callTo x).e = s.e := rfl
@[simp] theorem callTo_h (s : State) (x : Word) : (s.callTo x).h = s.h := rfl
@[simp] theorem callTo_l (s : State) (x : Word) : (s.callTo x).l = s.l := rfl
@[simp] theorem callTo_a (s : State) (x : Word) : (s.callTo x).a = s.a := rfl
@[simp] theorem callTo_flags (s : State) (x : Word) : (s.callTo x).flags = s.flags := rfl
@[simp] theorem callTo_pc (s : State) (x : Word) : (s.callTo x).pc = x := rfl
@[simp] theorem callTo_sp (s : State) (x : Word) : (s.callTo x).sp = s.sp - 2 := rfl
@[simp] theorem callTo_inte (s : State) (x : Word) : (s.callTo x).inte = s.inte := rfl
@[simp] theorem callTo_halted (s : State) (x : Word) : (s.callTo x).halted = s.halted := rfl
@[simp] theorem callTo_faulted (s : State) (x : Word) : (s.callTo x).faulted = s.faulted := rfl
@[simp] theorem callTo_mem (s : State) (x : Word) : (s.callTo x).mem = (s.mem.write (s.sp - 1) (hiByte s.pc)).write (s.sp - 2) (loByte s.pc) := rfl
@[simp] theorem callTo_params (s : State) (x : Word) : (s.callTo x).params = s.params := rfl
@[simp] theorem callTo_lastReturn (s : State) (x : Word) : (s.callTo x).lastReturn = s.lastReturn := rfl
@[simp] theorem callTo_portCalls (s : State) (x : Word) : (s.callTo x).portCalls = s.portCalls := rfl
@[simp] theorem callTo_portAnswers (s : State) (x : Word) : (s.callTo x).portAnswers = s.portAnswers := rfl

/-! ### returnFrom: a return -/

@[simp] theorem returnFrom_b (s : State) : (s.returnFrom).b = s.b := rfl
@[simp] theorem returnFrom_c (s : State) : (s.returnFrom).c = s.c := rfl
@[simp] theorem returnFrom_d (s : State) : (s.returnFrom).d = s.d := rfl
@[simp] theorem returnFrom_e (s : State) : (s.returnFrom).e = s.e := rfl
@[simp] theorem returnFrom_h (s : State) : (s.returnFrom).h = s.h := rfl
@[simp] theorem returnFrom_l (s : State) : (s.returnFrom).l = s.l := rfl
@[simp] theorem returnFrom_a (s : State) : (s.returnFrom).a = s.a := rfl
@[simp] theorem returnFrom_flags (s : State) : (s.returnFrom).flags = s.flags := rfl
@[simp] theorem returnFrom_pc (s : State) : (s.returnFrom).pc = s.stackTop := rfl
@[simp] theorem returnFrom_sp (s : State) : (s.returnFrom).sp = s.sp + 2 := rfl
@[simp] theorem returnFrom_inte (s : State) : (s.returnFrom).inte = s.inte := rfl
@[simp] theorem returnFrom_halted (s : State) : (s.returnFrom).halted = s.halted := rfl
@[simp] theorem returnFrom_faulted (s : State) : (s.returnFrom).faulted = s.faulted := rfl
@[simp] theorem returnFrom_mem (s : State) : (s.returnFrom).mem = s.mem := rfl
@[simp] theorem returnFrom_params (s : State) : (s.returnFrom).params = s.params := rfl
@[simp] theorem returnFrom_lastReturn (s : State) : (s.returnFrom).lastReturn = s.lastReturn := rfl
@[simp] theorem returnFrom_portCalls (s : State) : (s.returnFrom).portCalls = s.portCalls := rfl
@[simp] theorem returnFrom_portAnswers (s : State) : (s.returnFrom).portAnswers = s.portAnswers := rfl

/-! ### Registers and pairs read back -/

@[simp] theorem getReg_setReg (s : State) (r q : Reg) (v : Byte) :
    (s.setReg r v).getReg q = if q = r then v else s.getReg q := by
  cases r <;> cases q <;> rfl

/-- `hi ++ lo` is `hi * 256 + lo` (00_scope.md R6). -/
theorem toNat_joinBytes (x y : Byte) : (joinBytes x y).toNat = x.toNat * 256 + y.toNat := by
  have hy : y.toNat < 2 ^ 8 := y.isLt
  rw [joinBytes, BitVec.toNat_append, ← Nat.shiftLeft_add_eq_or_of_lt hy, Nat.shiftLeft_eq]

/-- The high byte as a number. -/
theorem toNat_hiByte (v : Word) : (hiByte v).toNat = v.toNat / 256 := by
  have := v.isLt
  simp only [hiByte, BitVec.extractLsb'_toNat, Nat.shiftRight_eq_div_pow]; omega

/-- The low byte as a number. -/
theorem toNat_loByte (v : Word) : (loByte v).toNat = v.toNat % 256 := by
  simp [loByte]

@[simp] theorem hiByte_joinBytes (x y : Byte) : hiByte (joinBytes x y) = x := by
  apply BitVec.eq_of_toNat_eq; rw [toNat_hiByte, toNat_joinBytes]; omega

@[simp] theorem loByte_joinBytes (x y : Byte) : loByte (joinBytes x y) = y := by
  apply BitVec.eq_of_toNat_eq; rw [toNat_loByte, toNat_joinBytes]; omega

@[simp] theorem joinBytes_hiByte_loByte (v : Word) : joinBytes (hiByte v) (loByte v) = v := by
  apply BitVec.eq_of_toNat_eq; rw [toNat_joinBytes, toNat_hiByte, toNat_loByte]; omega

@[simp] theorem getRp_setRp (s : State) (rp : Rp) (v : Word) : (s.setRp rp v).getRp rp = v := by
  cases rp <;> simp [State.setRp, State.getRp]

@[simp] theorem src8_dst8_reg (s : State) (r : Reg) (v : Byte) : (s.dst8 (.reg r) v).getReg r = v := by
  cases r <;> rfl

end Sys2Proof.Machine
end

