-- ==== Sys2Proof/Laws/Ops.lean ====
section
/-! SUPPORT. For each shared operation, what it can do, said once; proofs about instructions cite these lemmas. -/

namespace Sys2Proof.Machine

/-! ## Completing -/

theorem complete_eq_next (len : Word) (n : Nat) (f : State → State) (s t : State) :
    complete len n f s = .next t ↔ t = (f (s.advance len)).returns (.cycles n) := by
  simp only [complete, Host.Outcome.next.injEq]; exact eq_comm

theorem completeIf_true (len : Word) (n k : Nat) (f : State → State) (s : State) :
    completeIf true len n k f s = complete len n f s := rfl

theorem completeIf_false (len : Word) (n k : Nat) (f : State → State) (s : State) :
    completeIf false len n k f s = complete len k id s := rfl

/-- A conditional instruction always completes, in one of two ways. -/
theorem completeIf_cases (taken : Bool) (len : Word) (n k : Nat) (f : State → State) (s : State) :
    (taken = true ∧ completeIf taken len n k f s = .next ((f (s.advance len)).returns (.cycles n))) ∨
    (taken = false ∧ completeIf taken len n k f s = .next ((s.advance len).returns (.cycles k))) := by
  cases taken
  · exact .inr ⟨rfl, rfl⟩
  · exact .inl ⟨rfl, rfl⟩

/-! ## Undefined opcodes -/

theorem undefinedOpcode_fault {op : Byte} {g : State → Host.Outcome State Fault Refusal} {s : State}
    (h : s.params.undefPolicy = .fault) : undefinedOpcode op g s = .next (s.raiseDecodeFault op s.pc) := by
  simp [undefinedOpcode, h]

theorem undefinedOpcode_nop {op : Byte} {g : State → Host.Outcome State Fault Refusal} {s : State}
    (h : s.params.undefPolicy = .nop) : undefinedOpcode op g s = .next ((s.advance 1).returns (.cycles 4)) := by
  simp [undefinedOpcode, h, complete]

theorem undefinedOpcode_aliased {op : Byte} {g : State → Host.Outcome State Fault Refusal} {s : State}
    (h : s.params.undefPolicy = .aliased) : undefinedOpcode op g s = g s := by
  simp [undefinedOpcode, h]

/-! ## Interrupt requests -/

theorem raiseInterrupt_of_fault {s : State} {f : DecodeFault} (h : s.faulted = some f) : s.raiseInterrupt = s := by
  simp [State.raiseInterrupt, h]

theorem raiseInterrupt_of_disabled {s : State} (h : s.inte = false) : s.raiseInterrupt = s := by
  unfold State.raiseInterrupt; split <;> simp [h]

theorem raiseInterrupt_of_enabled {s : State} (hf : s.faulted = none) (h : s.inte = true) :
    s.raiseInterrupt = s.acceptInterrupt := by
  simp [State.raiseInterrupt, hf, h]

/-- A request is dropped or accepted; nothing else. -/
theorem raiseInterrupt_cases (s : State) :
    s.raiseInterrupt = s ∨ (s.faulted = none ∧ s.inte = true ∧ s.raiseInterrupt = s.acceptInterrupt) := by
  cases hf : s.faulted with
  | some f => exact .inl (raiseInterrupt_of_fault hf)
  | none =>
    cases hi : s.inte with
    | false => exact .inl (raiseInterrupt_of_disabled hi)
    | true => exact .inr ⟨rfl, rfl, raiseInterrupt_of_enabled hf hi⟩

/-! ## The stack -/

/-- Where a push writes: the low byte at sp - 2, the high byte at sp - 1, nothing else (44_stack.md R220). -/
theorem push16_read (s : State) (v x : Word) :
    (s.push16 v).mem.read x =
      if x = s.sp - 2 then loByte v else if x = s.sp - 1 then hiByte v else s.mem.read x := by
  rw [push16_mem, read_write, read_write]

/-! ## 16-bit accesses -/

/-- The two addresses of a 16-bit access differ. -/
theorem succ_ne (a : Word) : a + 1 ≠ a := by bv_omega

/-- Where a 16-bit write goes (00_scope.md R9). -/
theorem write16_read (m : Memory) (a v x : Word) :
    (m.write16 a v).read x = if x = a + 1 then hiByte v else if x = a then loByte v else m.read x := by
  rw [Memory.write16, read_write, read_write]

/-! ## The ALU primitives -/

/-- The result of `add8` is the sum modulo 256 (41_arithmetic.md R130). -/
theorem add8_res (a b : Byte) (cin : Bool) : (add8 a b cin).res.toNat = (a.toNat + b.toNat + cin.toNat) % 256 := by
  simp [add8]

/-- `nb`, the one's complement, as a number. -/
theorem toNat_complement (b : Byte) : (~~~b).toNat = 255 - b.toNat := by
  simp [BitVec.toNat_not]

/-- The result of `sub8` "equals u8(a - b - bin)" (41_arithmetic.md R131). -/
theorem sub8_res (a b : Byte) (bin : Bool) :
    (sub8 a b bin).res.toNat = (a.toNat + 256 - b.toNat - bin.toNat) % 256 := by
  have ha := a.isLt; have hb := b.isLt
  simp only [sub8, toNat_complement, BitVec.toNat_ofNat]
  cases bin <;> simp only [Bool.toNat_true, Bool.toNat_false] <;> omega

/-- CY of `sub8` is the borrow, "equals (a < b + bin)" (41_arithmetic.md R131). -/
theorem sub8_cy (a b : Byte) (bin : Bool) : (sub8 a b bin).cy = decide (a.toNat < b.toNat + bin.toNat) := by
  have ha := a.isLt; have hb := b.isLt
  simp only [sub8, toNat_complement, ← decide_not, decide_eq_decide]
  cases bin <;> simp only [Bool.toNat_true, Bool.toNat_false] <;> omega

/-- AC of `sub8` is 1 "when a[3:0] >= b[3:0] + bin" (41_arithmetic.md R131). -/
theorem sub8_ac (a b : Byte) (bin : Bool) :
    (sub8 a b bin).ac = decide (lowNibble b + bin.toNat ≤ lowNibble a) := by
  have hb := b.isLt
  have hn : (~~~b).toNat + b.toNat = 255 := by rw [toNat_complement]; omega
  rw [Bool.eq_iff_iff]
  simp only [sub8, decide_eq_true_eq]
  simp only [lowNibble]
  generalize (~~~b).toNat = n at hn ⊢
  cases bin <;> simp only [Bool.toNat_true, Bool.toNat_false] <;> omega

/-! ## Flags -/

@[simp] theorem setszp_z (f : Flags) (v : Byte) : (f.setszp v).z = decide (v = 0x00) := rfl
@[simp] theorem setszp_s (f : Flags) (v : Byte) : (f.setszp v).s = v.getLsbD 7 := rfl
@[simp] theorem setszp_p (f : Flags) (v : Byte) : (f.setszp v).p = parity v := rfl
@[simp] theorem setszp_cy (f : Flags) (v : Byte) : (f.setszp v).cy = f.cy := rfl
@[simp] theorem setszp_ac (f : Flags) (v : Byte) : (f.setszp v).ac = f.ac := rfl

/-- The flag byte keeps the five flags (10_state.md R27, R28). -/
@[simp] theorem ofByte_byte (f : Flags) : Flags.ofByte f.byte = f := by
  obtain ⟨z, s, p, cy, ac⟩ := f
  revert z s p cy ac; decide

/-- The sign flag is bit 7: set from 128 on. -/
theorem getLsbD_seven (v : Byte) : v.getLsbD 7 = decide (128 ≤ v.toNat) := by
  revert v; decide

end Sys2Proof.Machine
end

