-- ==== Sys2Proof/Laws/Exec.lean ====
section
/-! SUPPORT. What an instruction can do to the state, said once: every meaning is made of writes of single fields and of single
bytes of memory, so a property that those writes keep is kept by every instruction (`exec_keeps`), and a step is one of four
things (`step_cases`). -/

namespace Sys2Proof.Machine

/-- A property of states that every write of one field, or of one byte of memory, keeps; a fault mark is written only under
the policy `fault`, with an undefined opcode. -/
structure Kept (P : State → Prop) : Prop where
  reg : ∀ (s : State) (r : Reg) (v : Byte), P s → P (s.setReg r v)
  flags : ∀ (s : State) (f : Flags), P s → P { s with flags := f }
  pc : ∀ (s : State) (x : Word), P s → P { s with pc := x }
  sp : ∀ (s : State) (x : Word), P s → P { s with sp := x }
  inte : ∀ (s : State) (x : Bool), P s → P { s with inte := x }
  halted : ∀ (s : State) (x : Bool), P s → P { s with halted := x }
  mem : ∀ (s : State) (a : Word) (v : Byte), P s → P (s.memWrite a v)
  lastReturn : ∀ (s : State) (r : StepReturn), P s → P { s with lastReturn := r }
  ports : ∀ (s : State) (cs : List PortCall) (vs : List Byte), P s → P { s with portCalls := cs, portAnswers := vs }
  fault : ∀ (s : State) (op : Byte) (x : Word), s.params.undefPolicy = .fault →
    op ∈ [(0x08 : Byte), 0x10, 0x18, 0x20, 0x28, 0x30, 0x38, 0xCB, 0xD9, 0xDD, 0xED, 0xFD] → P s →
    P (s.raiseDecodeFault op x)

namespace Kept
variable {P : State → Prop} (k : Kept P)
include k

theorem setRp (s : State) (rp : Rp) (v : Word) (h : P s) : P (s.setRp rp v) := by
  cases rp
  · exact k.reg (s.setReg .b (hiByte v)) .c (loByte v) (k.reg s .b _ h)
  · exact k.reg (s.setReg .d (hiByte v)) .e (loByte v) (k.reg s .d _ h)
  · exact k.reg (s.setReg .h (hiByte v)) .l (loByte v) (k.reg s .h _ h)
  · exact k.sp s v h

theorem dst8 (s : State) (o : Operand8) (v : Byte) (h : P s) : P (s.dst8 o v) := by
  cases o with
  | reg r => exact k.reg s r v h
  | m => exact k.mem s s.hl v h

theorem aAndFlags (s : State) (v : Byte) (f : Flags) (h : P s) : P { s with a := v, flags := f } :=
  k.flags (s.setReg .a v) f (k.reg s .a v h)

theorem mem16 (s : State) (a v : Word) (h : P s) : P { s with mem := s.mem.write16 a v } :=
  k.mem (s.memWrite a (loByte v)) (a + 1) (hiByte v) (k.mem s a (loByte v) h)

theorem push16 (s : State) (v : Word) (h : P s) : P (s.push16 v) :=
  k.sp ((s.memWrite (s.sp - 1) (hiByte v)).memWrite (s.sp - 2) (loByte v)) (s.sp - 2) (k.mem _ _ _ (k.mem s _ _ h))

theorem callTo (s : State) (x : Word) (h : P s) : P (s.callTo x) := k.pc _ x (k.push16 s s.pc h)

theorem returnFrom (s : State) (h : P s) : P s.returnFrom := k.pc s.dropTop s.stackTop (k.sp s (s.sp + 2) h)

theorem returns (s : State) (r : StepReturn) (h : P s) : P (s.returns r) := k.lastReturn s r h

/-- A completed instruction keeps what its effect keeps. -/
theorem complete {len : Word} {n : Nat} {f : State → State} {s t : State} (hf : ∀ s, P s → P (f s)) (hs : P s)
    (h : complete len n f s = .next t) : P t := by
  rw [(complete_eq_next len n f s t).mp h]
  exact k.returns _ _ (hf _ (k.pc s _ hs))

/-- So does a conditional one. -/
theorem completeIf {taken : Bool} {len : Word} {n m : Nat} {f : State → State} {s t : State}
    (hf : ∀ s, P s → P (f s)) (hs : P s) (h : completeIf taken len n m f s = .next t) : P t := by
  cases taken
  · exact k.complete (fun _ hp => hp) hs h
  · exact k.complete hf hs h

/-- So does an undefined opcode, if its alias does. -/
theorem undefinedOpcode {op : Byte} {g : State → Host.Outcome State Fault Refusal} {s t : State}
    (hop : op ∈ [(0x08 : Byte), 0x10, 0x18, 0x20, 0x28, 0x30, 0x38, 0xCB, 0xD9, 0xDD, 0xED, 0xFD])
    (hg : g s = .next t → P t) (hs : P s) (h : undefinedOpcode op g s = .next t) : P t := by
  cases hp : s.params.undefPolicy with
  | fault =>
    rw [undefinedOpcode_fault hp, Host.Outcome.next.injEq] at h
    exact h ▸ k.fault s op s.pc hp hop hs
  | nop =>
    rw [undefinedOpcode_nop hp, Host.Outcome.next.injEq] at h
    exact h ▸ k.returns _ _ (k.pc s _ hs)
  | aliased => exact hg ((undefinedOpcode_aliased hp).symm.trans h)

/-- Interrupt requests keep it. -/
theorem raiseInterrupt (s : State) (h : P s) : P s.raiseInterrupt := by
  rcases raiseInterrupt_cases s with e | ⟨-, -, e⟩
  · rwa [e]
  · rw [e]; exact k.pc _ _ (k.push16 _ s.pc (k.halted _ false (k.inte s false h)))

end Kept

/-! ## Every instruction -/

/-- Every instruction keeps a property that the writes of Kept keep. -/
theorem exec_keeps {P : State → Prop} (k : Kept P) (i : Instr) {s t : State} (hs : P s) (h : exec i s = .next t) : P t := by
  cases i
  case nop =>
    exact k.complete (fun _ h => h) hs h
  case lxiB | inxB | dcxB | lxiD | inxD | dcxD | lxiH | inxH | lhld | dcxH | lxiSP | inxSP | dcxSP | sphl =>
    exact k.complete (fun s h => k.setRp s _ _ h) hs h
  case staxB | staxD | sta =>
    exact k.complete (fun s h => k.mem s _ _ h) hs h
  case inrB | dcrB | inrC | dcrC | inrD | dcrD | inrE | dcrE | inrH | dcrH | inrL | dcrL | inrM | dcrM | inrA | dcrA =>
    exact k.complete (fun s h => k.flags _ _ (k.dst8 s _ _ h)) hs h
  case mviB | mviC | mviD | mviE | mviH | mviL | mviM | mviA | movBB | movBC | movBD | movBE | movBH | movBL |
      movBM | movBA | movCB | movCC | movCD | movCE | movCH | movCL | movCM | movCA | movDB | movDC | movDD | movDE |
      movDH | movDL | movDM | movDA | movEB | movEC | movED | movEE | movEH | movEL | movEM | movEA | movHB | movHC |
      movHD | movHE | movHH | movHL | movHM | movHA | movLB | movLC | movLD | movLE | movLH | movLL | movLM | movLA |
      movMB | movMC | movMD | movME | movMH | movML | movMA | movAB | movAC | movAD | movAE | movAH | movAL | movAM |
      movAA =>
    exact k.complete (fun s h => k.dst8 s _ _ h) hs h
  case rlc | rrc | ral | rar | daa | addB | addC | addD | addE | addH | addL | addM | addA | adcB | adcC | adcD |
      adcE | adcH | adcL | adcM | adcA | subB | subC | subD | subE | subH | subL | subM | subA | sbbB | sbbC | sbbD |
      sbbE | sbbH | sbbL | sbbM | sbbA | anaB | anaC | anaD | anaE | anaH | anaL | anaM | anaA | xraB | xraC | xraD |
      xraE | xraH | xraL | xraM | xraA | oraB | oraC | oraD | oraE | oraH | oraL | oraM | oraA | adi | aci | sui |
      sbi | ani | xri | ori =>
    exact k.complete (fun s h => k.aAndFlags s _ _ h) hs h
  case undef08 | undef10 | undef18 | undef20 | undef28 | undef30 | undef38 =>
    exact k.undefinedOpcode (by decide) (fun h => k.complete (fun _ h => h) hs h) hs h
  case dadB | dadD | dadH | dadSP =>
    exact k.complete (fun s h => k.flags _ _ (k.setRp s _ _ h)) hs h
  case ldaxB | ldaxD | cma | lda =>
    exact k.complete (fun s h => k.reg s .a _ h) hs h
  case shld =>
    exact k.complete (fun s h => k.mem16 s _ _ h) hs h
  case stc | cmc | cmpB | cmpC | cmpD | cmpE | cmpH | cmpL | cmpM | cmpA | cpi =>
    exact k.complete (fun s h => k.flags s _ h) hs h
  case hlt =>
    exact k.complete (fun s h => k.halted s _ h) hs h
  case rnz | rz | rnc | rc | rpo | rpe | rp | rm =>
    exact k.completeIf (fun s h => k.returnFrom s h) hs h
  case popB | popD | popH =>
    exact k.complete (fun s h => k.setRp s.dropTop _ _ (k.sp s _ h)) hs h
  case jnz | jz | jnc | jc | jpo | jpe | jp | jm =>
    exact k.completeIf (fun s h => k.pc s _ h) hs h
  case jmp | pchl =>
    exact k.complete (fun s h => k.pc s _ h) hs h
  case cnz | cz | cnc | cc | cpo | cpe | cp | cm =>
    exact k.completeIf (fun s h => k.callTo s _ h) hs h
  case pushB | pushD | pushH | pushPSW =>
    exact k.complete (fun s h => k.push16 s _ h) hs h
  case rst0 | call | rst1 | rst2 | rst3 | rst4 | rst5 | rst6 | rst7 =>
    exact k.complete (fun s h => k.callTo s _ h) hs h
  case ret =>
    exact k.complete (fun s h => k.returnFrom s h) hs h
  case undefCB =>
    exact k.undefinedOpcode (by decide) (fun h => k.complete (fun s h => k.pc s _ h) hs h) hs h
  case outPort =>
    exact k.complete (fun s h => k.ports s _ _ h) hs h
  case undefD9 =>
    exact k.undefinedOpcode (by decide) (fun h => k.complete (fun s h => k.returnFrom s h) hs h) hs h
  case inPort =>
    exact k.complete (fun s h => k.reg (s.portIn _) .a _ (k.ports s _ _ h)) hs h
  case undefDD | undefED | undefFD =>
    exact k.undefinedOpcode (by decide) (fun h => k.complete (fun s h => k.callTo s _ h) hs h) hs h
  case xthl =>
    exact k.complete (fun s h => k.setRp _ _ _ (k.mem16 s _ _ h)) hs h
  case xchg =>
    exact k.complete (fun s h => k.setRp _ _ _ (k.setRp s _ _ h)) hs h
  case popPSW =>
    exact k.complete (fun s h => k.aAndFlags s.dropTop _ _ (k.sp s _ h)) hs h
  case di | ei =>
    exact k.complete (fun s h => k.inte s _ h) hs h

/-! ## A step -/

/-- A step answers the recorded fault, idles, or runs the instruction at the pc. -/
theorem step_cases (s : State) :
    (∃ f, s.faulted = some f ∧ step s = .fault (.decodeFault f.opcode f.addr)) ∨
    (s.faulted = none ∧ s.halted = true ∧ step s = .next s.idle) ∨
    (s.faulted = none ∧ s.halted = false ∧ step s = exec s.fetch s) := by
  unfold step
  cases hf : s.faulted with
  | some f => exact .inl ⟨f, rfl, rfl⟩
  | none => cases hh : s.halted <;> simp

/-- Every step keeps a property that the writes of Kept keep. -/
theorem step_keeps {P : State → Prop} (k : Kept P) {s t : State} (hs : P s) (h : step s = .next t) : P t := by
  rcases step_cases s with ⟨f, -, e⟩ | ⟨-, -, e⟩ | ⟨-, -, e⟩ <;> rw [e] at h
  · cases h
  · cases h; exact k.lastReturn s _ hs
  · exact exec_keeps k _ hs h

/-- What an accepted launch gives. -/
theorem launch_eq_next {x : Launch} {t : State} (h : launch x = .next t) :
    t = State.ofLaunch x ∧ x.image.length ≤ 65536 := by
  unfold launch at h
  split at h
  · next hx => exact ⟨(Host.Outcome.next.injEq _ _ ▸ h).symm, hx⟩
  · cases h

end Sys2Proof.Machine
end

