-- ==== Sys2Proof/Laws/PerInstr.lean ====
section
/-! SUPPORT. Statements made instruction by instruction, one lemma for each constructor of Instr. EncodedLength: the bytes of an
instruction are as many as its opcode byte says (30_encoding.md R84), so the field patterns of the encoder and the length rule
of the opcode map agree. -/

namespace Sys2Proof.Laws.EncodedLength

/-- The encoding has an opcode byte, and as many bytes as the length of that opcode. -/
def Statement (i : Instr) : Prop := ∃ op operands, encode i = op :: operands ∧ operands.length + 1 = opLength op

theorem nop : Statement .nop := ⟨_, _, rfl, rfl⟩
theorem lxiB (d16 : Word) : Statement (.lxiB d16) := ⟨_, _, rfl, rfl⟩
theorem staxB : Statement .staxB := ⟨_, _, rfl, rfl⟩
theorem inxB : Statement .inxB := ⟨_, _, rfl, rfl⟩
theorem inrB : Statement .inrB := ⟨_, _, rfl, rfl⟩
theorem dcrB : Statement .dcrB := ⟨_, _, rfl, rfl⟩
theorem mviB (d8 : Byte) : Statement (.mviB d8) := ⟨_, _, rfl, rfl⟩
theorem rlc : Statement .rlc := ⟨_, _, rfl, rfl⟩
theorem undef08 : Statement .undef08 := ⟨_, _, rfl, rfl⟩
theorem dadB : Statement .dadB := ⟨_, _, rfl, rfl⟩
theorem ldaxB : Statement .ldaxB := ⟨_, _, rfl, rfl⟩
theorem dcxB : Statement .dcxB := ⟨_, _, rfl, rfl⟩
theorem inrC : Statement .inrC := ⟨_, _, rfl, rfl⟩
theorem dcrC : Statement .dcrC := ⟨_, _, rfl, rfl⟩
theorem mviC (d8 : Byte) : Statement (.mviC d8) := ⟨_, _, rfl, rfl⟩
theorem rrc : Statement .rrc := ⟨_, _, rfl, rfl⟩
theorem undef10 : Statement .undef10 := ⟨_, _, rfl, rfl⟩
theorem lxiD (d16 : Word) : Statement (.lxiD d16) := ⟨_, _, rfl, rfl⟩
theorem staxD : Statement .staxD := ⟨_, _, rfl, rfl⟩
theorem inxD : Statement .inxD := ⟨_, _, rfl, rfl⟩
theorem inrD : Statement .inrD := ⟨_, _, rfl, rfl⟩
theorem dcrD : Statement .dcrD := ⟨_, _, rfl, rfl⟩
theorem mviD (d8 : Byte) : Statement (.mviD d8) := ⟨_, _, rfl, rfl⟩
theorem ral : Statement .ral := ⟨_, _, rfl, rfl⟩
theorem undef18 : Statement .undef18 := ⟨_, _, rfl, rfl⟩
theorem dadD : Statement .dadD := ⟨_, _, rfl, rfl⟩
theorem ldaxD : Statement .ldaxD := ⟨_, _, rfl, rfl⟩
theorem dcxD : Statement .dcxD := ⟨_, _, rfl, rfl⟩
theorem inrE : Statement .inrE := ⟨_, _, rfl, rfl⟩
theorem dcrE : Statement .dcrE := ⟨_, _, rfl, rfl⟩
theorem mviE (d8 : Byte) : Statement (.mviE d8) := ⟨_, _, rfl, rfl⟩
theorem rar : Statement .rar := ⟨_, _, rfl, rfl⟩
theorem undef20 : Statement .undef20 := ⟨_, _, rfl, rfl⟩
theorem lxiH (d16 : Word) : Statement (.lxiH d16) := ⟨_, _, rfl, rfl⟩
theorem shld (a16 : Word) : Statement (.shld a16) := ⟨_, _, rfl, rfl⟩
theorem inxH : Statement .inxH := ⟨_, _, rfl, rfl⟩
theorem inrH : Statement .inrH := ⟨_, _, rfl, rfl⟩
theorem dcrH : Statement .dcrH := ⟨_, _, rfl, rfl⟩
theorem mviH (d8 : Byte) : Statement (.mviH d8) := ⟨_, _, rfl, rfl⟩
theorem daa : Statement .daa := ⟨_, _, rfl, rfl⟩
theorem undef28 : Statement .undef28 := ⟨_, _, rfl, rfl⟩
theorem dadH : Statement .dadH := ⟨_, _, rfl, rfl⟩
theorem lhld (a16 : Word) : Statement (.lhld a16) := ⟨_, _, rfl, rfl⟩
theorem dcxH : Statement .dcxH := ⟨_, _, rfl, rfl⟩
theorem inrL : Statement .inrL := ⟨_, _, rfl, rfl⟩
theorem dcrL : Statement .dcrL := ⟨_, _, rfl, rfl⟩
theorem mviL (d8 : Byte) : Statement (.mviL d8) := ⟨_, _, rfl, rfl⟩
theorem cma : Statement .cma := ⟨_, _, rfl, rfl⟩
theorem undef30 : Statement .undef30 := ⟨_, _, rfl, rfl⟩
theorem lxiSP (d16 : Word) : Statement (.lxiSP d16) := ⟨_, _, rfl, rfl⟩
theorem sta (a16 : Word) : Statement (.sta a16) := ⟨_, _, rfl, rfl⟩
theorem inxSP : Statement .inxSP := ⟨_, _, rfl, rfl⟩
theorem inrM : Statement .inrM := ⟨_, _, rfl, rfl⟩
theorem dcrM : Statement .dcrM := ⟨_, _, rfl, rfl⟩
theorem mviM (d8 : Byte) : Statement (.mviM d8) := ⟨_, _, rfl, rfl⟩
theorem stc : Statement .stc := ⟨_, _, rfl, rfl⟩
theorem undef38 : Statement .undef38 := ⟨_, _, rfl, rfl⟩
theorem dadSP : Statement .dadSP := ⟨_, _, rfl, rfl⟩
theorem lda (a16 : Word) : Statement (.lda a16) := ⟨_, _, rfl, rfl⟩
theorem dcxSP : Statement .dcxSP := ⟨_, _, rfl, rfl⟩
theorem inrA : Statement .inrA := ⟨_, _, rfl, rfl⟩
theorem dcrA : Statement .dcrA := ⟨_, _, rfl, rfl⟩
theorem mviA (d8 : Byte) : Statement (.mviA d8) := ⟨_, _, rfl, rfl⟩
theorem cmc : Statement .cmc := ⟨_, _, rfl, rfl⟩
theorem movBB : Statement .movBB := ⟨_, _, rfl, rfl⟩
theorem movBC : Statement .movBC := ⟨_, _, rfl, rfl⟩
theorem movBD : Statement .movBD := ⟨_, _, rfl, rfl⟩
theorem movBE : Statement .movBE := ⟨_, _, rfl, rfl⟩
theorem movBH : Statement .movBH := ⟨_, _, rfl, rfl⟩
theorem movBL : Statement .movBL := ⟨_, _, rfl, rfl⟩
theorem movBM : Statement .movBM := ⟨_, _, rfl, rfl⟩
theorem movBA : Statement .movBA := ⟨_, _, rfl, rfl⟩
theorem movCB : Statement .movCB := ⟨_, _, rfl, rfl⟩
theorem movCC : Statement .movCC := ⟨_, _, rfl, rfl⟩
theorem movCD : Statement .movCD := ⟨_, _, rfl, rfl⟩
theorem movCE : Statement .movCE := ⟨_, _, rfl, rfl⟩
theorem movCH : Statement .movCH := ⟨_, _, rfl, rfl⟩
theorem movCL : Statement .movCL := ⟨_, _, rfl, rfl⟩
theorem movCM : Statement .movCM := ⟨_, _, rfl, rfl⟩
theorem movCA : Statement .movCA := ⟨_, _, rfl, rfl⟩
theorem movDB : Statement .movDB := ⟨_, _, rfl, rfl⟩
theorem movDC : Statement .movDC := ⟨_, _, rfl, rfl⟩
theorem movDD : Statement .movDD := ⟨_, _, rfl, rfl⟩
theorem movDE : Statement .movDE := ⟨_, _, rfl, rfl⟩
theorem movDH : Statement .movDH := ⟨_, _, rfl, rfl⟩
theorem movDL : Statement .movDL := ⟨_, _, rfl, rfl⟩
theorem movDM : Statement .movDM := ⟨_, _, rfl, rfl⟩
theorem movDA : Statement .movDA := ⟨_, _, rfl, rfl⟩
theorem movEB : Statement .movEB := ⟨_, _, rfl, rfl⟩
theorem movEC : Statement .movEC := ⟨_, _, rfl, rfl⟩
theorem movED : Statement .movED := ⟨_, _, rfl, rfl⟩
theorem movEE : Statement .movEE := ⟨_, _, rfl, rfl⟩
theorem movEH : Statement .movEH := ⟨_, _, rfl, rfl⟩
theorem movEL : Statement .movEL := ⟨_, _, rfl, rfl⟩
theorem movEM : Statement .movEM := ⟨_, _, rfl, rfl⟩
theorem movEA : Statement .movEA := ⟨_, _, rfl, rfl⟩
theorem movHB : Statement .movHB := ⟨_, _, rfl, rfl⟩
theorem movHC : Statement .movHC := ⟨_, _, rfl, rfl⟩
theorem movHD : Statement .movHD := ⟨_, _, rfl, rfl⟩
theorem movHE : Statement .movHE := ⟨_, _, rfl, rfl⟩
theorem movHH : Statement .movHH := ⟨_, _, rfl, rfl⟩
theorem movHL : Statement .movHL := ⟨_, _, rfl, rfl⟩
theorem movHM : Statement .movHM := ⟨_, _, rfl, rfl⟩
theorem movHA : Statement .movHA := ⟨_, _, rfl, rfl⟩
theorem movLB : Statement .movLB := ⟨_, _, rfl, rfl⟩
theorem movLC : Statement .movLC := ⟨_, _, rfl, rfl⟩
theorem movLD : Statement .movLD := ⟨_, _, rfl, rfl⟩
theorem movLE : Statement .movLE := ⟨_, _, rfl, rfl⟩
theorem movLH : Statement .movLH := ⟨_, _, rfl, rfl⟩
theorem movLL : Statement .movLL := ⟨_, _, rfl, rfl⟩
theorem movLM : Statement .movLM := ⟨_, _, rfl, rfl⟩
theorem movLA : Statement .movLA := ⟨_, _, rfl, rfl⟩
theorem movMB : Statement .movMB := ⟨_, _, rfl, rfl⟩
theorem movMC : Statement .movMC := ⟨_, _, rfl, rfl⟩
theorem movMD : Statement .movMD := ⟨_, _, rfl, rfl⟩
theorem movME : Statement .movME := ⟨_, _, rfl, rfl⟩
theorem movMH : Statement .movMH := ⟨_, _, rfl, rfl⟩
theorem movML : Statement .movML := ⟨_, _, rfl, rfl⟩
theorem hlt : Statement .hlt := ⟨_, _, rfl, rfl⟩
theorem movMA : Statement .movMA := ⟨_, _, rfl, rfl⟩
theorem movAB : Statement .movAB := ⟨_, _, rfl, rfl⟩
theorem movAC : Statement .movAC := ⟨_, _, rfl, rfl⟩
theorem movAD : Statement .movAD := ⟨_, _, rfl, rfl⟩
theorem movAE : Statement .movAE := ⟨_, _, rfl, rfl⟩
theorem movAH : Statement .movAH := ⟨_, _, rfl, rfl⟩
theorem movAL : Statement .movAL := ⟨_, _, rfl, rfl⟩
theorem movAM : Statement .movAM := ⟨_, _, rfl, rfl⟩
theorem movAA : Statement .movAA := ⟨_, _, rfl, rfl⟩
theorem addB : Statement .addB := ⟨_, _, rfl, rfl⟩
theorem addC : Statement .addC := ⟨_, _, rfl, rfl⟩
theorem addD : Statement .addD := ⟨_, _, rfl, rfl⟩
theorem addE : Statement .addE := ⟨_, _, rfl, rfl⟩
theorem addH : Statement .addH := ⟨_, _, rfl, rfl⟩
theorem addL : Statement .addL := ⟨_, _, rfl, rfl⟩
theorem addM : Statement .addM := ⟨_, _, rfl, rfl⟩
theorem addA : Statement .addA := ⟨_, _, rfl, rfl⟩
theorem adcB : Statement .adcB := ⟨_, _, rfl, rfl⟩
theorem adcC : Statement .adcC := ⟨_, _, rfl, rfl⟩
theorem adcD : Statement .adcD := ⟨_, _, rfl, rfl⟩
theorem adcE : Statement .adcE := ⟨_, _, rfl, rfl⟩
theorem adcH : Statement .adcH := ⟨_, _, rfl, rfl⟩
theorem adcL : Statement .adcL := ⟨_, _, rfl, rfl⟩
theorem adcM : Statement .adcM := ⟨_, _, rfl, rfl⟩
theorem adcA : Statement .adcA := ⟨_, _, rfl, rfl⟩
theorem subB : Statement .subB := ⟨_, _, rfl, rfl⟩
theorem subC : Statement .subC := ⟨_, _, rfl, rfl⟩
theorem subD : Statement .subD := ⟨_, _, rfl, rfl⟩
theorem subE : Statement .subE := ⟨_, _, rfl, rfl⟩
theorem subH : Statement .subH := ⟨_, _, rfl, rfl⟩
theorem subL : Statement .subL := ⟨_, _, rfl, rfl⟩
theorem subM : Statement .subM := ⟨_, _, rfl, rfl⟩
theorem subA : Statement .subA := ⟨_, _, rfl, rfl⟩
theorem sbbB : Statement .sbbB := ⟨_, _, rfl, rfl⟩
theorem sbbC : Statement .sbbC := ⟨_, _, rfl, rfl⟩
theorem sbbD : Statement .sbbD := ⟨_, _, rfl, rfl⟩
theorem sbbE : Statement .sbbE := ⟨_, _, rfl, rfl⟩
theorem sbbH : Statement .sbbH := ⟨_, _, rfl, rfl⟩
theorem sbbL : Statement .sbbL := ⟨_, _, rfl, rfl⟩
theorem sbbM : Statement .sbbM := ⟨_, _, rfl, rfl⟩
theorem sbbA : Statement .sbbA := ⟨_, _, rfl, rfl⟩
theorem anaB : Statement .anaB := ⟨_, _, rfl, rfl⟩
theorem anaC : Statement .anaC := ⟨_, _, rfl, rfl⟩
theorem anaD : Statement .anaD := ⟨_, _, rfl, rfl⟩
theorem anaE : Statement .anaE := ⟨_, _, rfl, rfl⟩
theorem anaH : Statement .anaH := ⟨_, _, rfl, rfl⟩
theorem anaL : Statement .anaL := ⟨_, _, rfl, rfl⟩
theorem anaM : Statement .anaM := ⟨_, _, rfl, rfl⟩
theorem anaA : Statement .anaA := ⟨_, _, rfl, rfl⟩
theorem xraB : Statement .xraB := ⟨_, _, rfl, rfl⟩
theorem xraC : Statement .xraC := ⟨_, _, rfl, rfl⟩
theorem xraD : Statement .xraD := ⟨_, _, rfl, rfl⟩
theorem xraE : Statement .xraE := ⟨_, _, rfl, rfl⟩
theorem xraH : Statement .xraH := ⟨_, _, rfl, rfl⟩
theorem xraL : Statement .xraL := ⟨_, _, rfl, rfl⟩
theorem xraM : Statement .xraM := ⟨_, _, rfl, rfl⟩
theorem xraA : Statement .xraA := ⟨_, _, rfl, rfl⟩
theorem oraB : Statement .oraB := ⟨_, _, rfl, rfl⟩
theorem oraC : Statement .oraC := ⟨_, _, rfl, rfl⟩
theorem oraD : Statement .oraD := ⟨_, _, rfl, rfl⟩
theorem oraE : Statement .oraE := ⟨_, _, rfl, rfl⟩
theorem oraH : Statement .oraH := ⟨_, _, rfl, rfl⟩
theorem oraL : Statement .oraL := ⟨_, _, rfl, rfl⟩
theorem oraM : Statement .oraM := ⟨_, _, rfl, rfl⟩
theorem oraA : Statement .oraA := ⟨_, _, rfl, rfl⟩
theorem cmpB : Statement .cmpB := ⟨_, _, rfl, rfl⟩
theorem cmpC : Statement .cmpC := ⟨_, _, rfl, rfl⟩
theorem cmpD : Statement .cmpD := ⟨_, _, rfl, rfl⟩
theorem cmpE : Statement .cmpE := ⟨_, _, rfl, rfl⟩
theorem cmpH : Statement .cmpH := ⟨_, _, rfl, rfl⟩
theorem cmpL : Statement .cmpL := ⟨_, _, rfl, rfl⟩
theorem cmpM : Statement .cmpM := ⟨_, _, rfl, rfl⟩
theorem cmpA : Statement .cmpA := ⟨_, _, rfl, rfl⟩
theorem rnz : Statement .rnz := ⟨_, _, rfl, rfl⟩
theorem popB : Statement .popB := ⟨_, _, rfl, rfl⟩
theorem jnz (a16 : Word) : Statement (.jnz a16) := ⟨_, _, rfl, rfl⟩
theorem jmp (a16 : Word) : Statement (.jmp a16) := ⟨_, _, rfl, rfl⟩
theorem cnz (a16 : Word) : Statement (.cnz a16) := ⟨_, _, rfl, rfl⟩
theorem pushB : Statement .pushB := ⟨_, _, rfl, rfl⟩
theorem adi (d8 : Byte) : Statement (.adi d8) := ⟨_, _, rfl, rfl⟩
theorem rst0 : Statement .rst0 := ⟨_, _, rfl, rfl⟩
theorem rz : Statement .rz := ⟨_, _, rfl, rfl⟩
theorem ret : Statement .ret := ⟨_, _, rfl, rfl⟩
theorem jz (a16 : Word) : Statement (.jz a16) := ⟨_, _, rfl, rfl⟩
theorem undefCB (a16 : Word) : Statement (.undefCB a16) := ⟨_, _, rfl, rfl⟩
theorem cz (a16 : Word) : Statement (.cz a16) := ⟨_, _, rfl, rfl⟩
theorem call (a16 : Word) : Statement (.call a16) := ⟨_, _, rfl, rfl⟩
theorem aci (d8 : Byte) : Statement (.aci d8) := ⟨_, _, rfl, rfl⟩
theorem rst1 : Statement .rst1 := ⟨_, _, rfl, rfl⟩
theorem rnc : Statement .rnc := ⟨_, _, rfl, rfl⟩
theorem popD : Statement .popD := ⟨_, _, rfl, rfl⟩
theorem jnc (a16 : Word) : Statement (.jnc a16) := ⟨_, _, rfl, rfl⟩
theorem outPort (p8 : Byte) : Statement (.outPort p8) := ⟨_, _, rfl, rfl⟩
theorem cnc (a16 : Word) : Statement (.cnc a16) := ⟨_, _, rfl, rfl⟩
theorem pushD : Statement .pushD := ⟨_, _, rfl, rfl⟩
theorem sui (d8 : Byte) : Statement (.sui d8) := ⟨_, _, rfl, rfl⟩
theorem rst2 : Statement .rst2 := ⟨_, _, rfl, rfl⟩
theorem rc : Statement .rc := ⟨_, _, rfl, rfl⟩
theorem undefD9 : Statement .undefD9 := ⟨_, _, rfl, rfl⟩
theorem jc (a16 : Word) : Statement (.jc a16) := ⟨_, _, rfl, rfl⟩
theorem inPort (p8 : Byte) : Statement (.inPort p8) := ⟨_, _, rfl, rfl⟩
theorem cc (a16 : Word) : Statement (.cc a16) := ⟨_, _, rfl, rfl⟩
theorem undefDD (a16 : Word) : Statement (.undefDD a16) := ⟨_, _, rfl, rfl⟩
theorem sbi (d8 : Byte) : Statement (.sbi d8) := ⟨_, _, rfl, rfl⟩
theorem rst3 : Statement .rst3 := ⟨_, _, rfl, rfl⟩
theorem rpo : Statement .rpo := ⟨_, _, rfl, rfl⟩
theorem popH : Statement .popH := ⟨_, _, rfl, rfl⟩
theorem jpo (a16 : Word) : Statement (.jpo a16) := ⟨_, _, rfl, rfl⟩
theorem xthl : Statement .xthl := ⟨_, _, rfl, rfl⟩
theorem cpo (a16 : Word) : Statement (.cpo a16) := ⟨_, _, rfl, rfl⟩
theorem pushH : Statement .pushH := ⟨_, _, rfl, rfl⟩
theorem ani (d8 : Byte) : Statement (.ani d8) := ⟨_, _, rfl, rfl⟩
theorem rst4 : Statement .rst4 := ⟨_, _, rfl, rfl⟩
theorem rpe : Statement .rpe := ⟨_, _, rfl, rfl⟩
theorem pchl : Statement .pchl := ⟨_, _, rfl, rfl⟩
theorem jpe (a16 : Word) : Statement (.jpe a16) := ⟨_, _, rfl, rfl⟩
theorem xchg : Statement .xchg := ⟨_, _, rfl, rfl⟩
theorem cpe (a16 : Word) : Statement (.cpe a16) := ⟨_, _, rfl, rfl⟩
theorem undefED (a16 : Word) : Statement (.undefED a16) := ⟨_, _, rfl, rfl⟩
theorem xri (d8 : Byte) : Statement (.xri d8) := ⟨_, _, rfl, rfl⟩
theorem rst5 : Statement .rst5 := ⟨_, _, rfl, rfl⟩
theorem rp : Statement .rp := ⟨_, _, rfl, rfl⟩
theorem popPSW : Statement .popPSW := ⟨_, _, rfl, rfl⟩
theorem jp (a16 : Word) : Statement (.jp a16) := ⟨_, _, rfl, rfl⟩
theorem di : Statement .di := ⟨_, _, rfl, rfl⟩
theorem cp (a16 : Word) : Statement (.cp a16) := ⟨_, _, rfl, rfl⟩
theorem pushPSW : Statement .pushPSW := ⟨_, _, rfl, rfl⟩
theorem ori (d8 : Byte) : Statement (.ori d8) := ⟨_, _, rfl, rfl⟩
theorem rst6 : Statement .rst6 := ⟨_, _, rfl, rfl⟩
theorem rm : Statement .rm := ⟨_, _, rfl, rfl⟩
theorem sphl : Statement .sphl := ⟨_, _, rfl, rfl⟩
theorem jm (a16 : Word) : Statement (.jm a16) := ⟨_, _, rfl, rfl⟩
theorem ei : Statement .ei := ⟨_, _, rfl, rfl⟩
theorem cm (a16 : Word) : Statement (.cm a16) := ⟨_, _, rfl, rfl⟩
theorem undefFD (a16 : Word) : Statement (.undefFD a16) := ⟨_, _, rfl, rfl⟩
theorem cpi (d8 : Byte) : Statement (.cpi d8) := ⟨_, _, rfl, rfl⟩
theorem rst7 : Statement .rst7 := ⟨_, _, rfl, rfl⟩

end Sys2Proof.Laws.EncodedLength
end

