-- ==== Sys2Proof/Tests/Slice0.lean ====
section
/-! SUPPORT. The model's own tests: what WellFormed refuses; every constructor's decoding, from words written out bit by bit from
the spec's encodings; one step for vectors of spec 95_test_vectors.md (L2), whose expected results are the spec's, not the
model's; and a witness for every statement of Certificates/Slice0/Obligations.lean that has hypotheses, one for each clause. -/

namespace Sys2Proof.Tests
open Sys2Proof.Machine Sys2Proof.Claims

/-! ## What is not well formed -/

/-- An undefined opcode is not a documented instruction (30_encoding.md R82). -/
theorem test_wellformed_refuses_undefined :
    ¬ Instr.undef08.WellFormed ∧ ¬ (Instr.undefCB 0x2000).WellFormed ∧ Instr.nop.WellFormed := by
  decide

/-- An image of 65,537 bytes is not accepted, one of 65,536 is (70_reset_and_hazards.md R291). -/
theorem test_wellformed_refuses_oversize_image (x : Launch) :
    ¬ Launch.WellFormed { x with image := List.replicate 65537 0xFF } ∧
      Launch.WellFormed { x with image := List.replicate 65536 0xFF } := by
  simp only [Launch.WellFormed, List.length_replicate]
  exact ⟨by decide, le_refl _⟩

/-! ## Decoding -/

/-- Does every word decode to its instruction, with nothing left over? -/
def decodesAll (rows : List (List Byte × Instr)) : Bool := rows.all fun row => decide (decode row.1 = .ok row.2 [])

/-- `01dddsss` (30_encoding.md R71, R75; 40_data_transfer.md R101, R102), ddd 000 and 001. -/
theorem test_decode_mov_to_b_c :
    decodesAll
      [([0b01000000], .movBB), ([0b01000001], .movBC), ([0b01000010], .movBD), ([0b01000011], .movBE),
       ([0b01000100], .movBH), ([0b01000101], .movBL), ([0b01000110], .movBM), ([0b01000111], .movBA),
       ([0b01001000], .movCB), ([0b01001001], .movCC), ([0b01001010], .movCD), ([0b01001011], .movCE),
       ([0b01001100], .movCH), ([0b01001101], .movCL), ([0b01001110], .movCM), ([0b01001111], .movCA)] = true := by
  decide

/-- `01dddsss`, ddd 010 and 011. -/
theorem test_decode_mov_to_d_e :
    decodesAll
      [([0b01010000], .movDB), ([0b01010001], .movDC), ([0b01010010], .movDD), ([0b01010011], .movDE),
       ([0b01010100], .movDH), ([0b01010101], .movDL), ([0b01010110], .movDM), ([0b01010111], .movDA),
       ([0b01011000], .movEB), ([0b01011001], .movEC), ([0b01011010], .movED), ([0b01011011], .movEE),
       ([0b01011100], .movEH), ([0b01011101], .movEL), ([0b01011110], .movEM), ([0b01011111], .movEA)] = true := by
  decide

/-- `01dddsss`, ddd 100 and 101. -/
theorem test_decode_mov_to_h_l :
    decodesAll
      [([0b01100000], .movHB), ([0b01100001], .movHC), ([0b01100010], .movHD), ([0b01100011], .movHE),
       ([0b01100100], .movHH), ([0b01100101], .movHL), ([0b01100110], .movHM), ([0b01100111], .movHA),
       ([0b01101000], .movLB), ([0b01101001], .movLC), ([0b01101010], .movLD), ([0b01101011], .movLE),
       ([0b01101100], .movLH), ([0b01101101], .movLL), ([0b01101110], .movLM), ([0b01101111], .movLA)] = true := by
  decide

/-- `01dddsss`, ddd 110 and 111 (R103); 01110110 is HLT (45_io_control.md R244). -/
theorem test_decode_mov_to_m_a :
    decodesAll
      [([0b01110000], .movMB), ([0b01110001], .movMC), ([0b01110010], .movMD), ([0b01110011], .movME),
       ([0b01110100], .movMH), ([0b01110101], .movML), ([0b01110110], .hlt), ([0b01110111], .movMA),
       ([0b01111000], .movAB), ([0b01111001], .movAC), ([0b01111010], .movAD), ([0b01111011], .movAE),
       ([0b01111100], .movAH), ([0b01111101], .movAL), ([0b01111110], .movAM), ([0b01111111], .movAA)] = true := by
  decide

/-- `00ddd110` MVI and `00rp0001` LXI (40_data_transfer.md R104 to R106). -/
theorem test_decode_mvi_and_lxi :
    decodesAll
      [([0b00000001, 0x34, 0x12], .lxiB 0x1234), ([0b00000110, 0x5A], .mviB 0x5A), ([0b00001110, 0x5A], .mviC 0x5A),
       ([0b00010001, 0x34, 0x12], .lxiD 0x1234), ([0b00010110, 0x5A], .mviD 0x5A), ([0b00011110, 0x5A], .mviE 0x5A),
       ([0b00100001, 0x34, 0x12], .lxiH 0x1234), ([0b00100110, 0x5A], .mviH 0x5A), ([0b00101110, 0x5A], .mviL 0x5A),
       ([0b00110001, 0x34, 0x12], .lxiSP 0x1234), ([0b00110110, 0x5A], .mviM 0x5A), ([0b00111110, 0x5A], .mviA 0x5A)] = true := by
  decide

/-- LDAX, STAX, LDA, STA, LHLD, SHLD, XCHG (40_data_transfer.md R107 to R113). -/
theorem test_decode_direct_and_indirect_moves :
    decodesAll
      [([0b00000010], .staxB), ([0b00001010], .ldaxB), ([0b00010010], .staxD), ([0b00011010], .ldaxD),
       ([0b00100010, 0x34, 0x12], .shld 0x1234), ([0b00101010, 0x34, 0x12], .lhld 0x1234),
       ([0b00110010, 0x34, 0x12], .sta 0x1234), ([0b00111010, 0x34, 0x12], .lda 0x1234), ([0b11101011], .xchg)] = true := by
  decide

/-- `10alusss`, alu 000 and 001 (30_encoding.md R79; 41_arithmetic.md R133 to R137). -/
theorem test_decode_add_adc :
    decodesAll
      [([0b10000000], .addB), ([0b10000001], .addC), ([0b10000010], .addD), ([0b10000011], .addE),
       ([0b10000100], .addH), ([0b10000101], .addL), ([0b10000110], .addM), ([0b10000111], .addA),
       ([0b10001000], .adcB), ([0b10001001], .adcC), ([0b10001010], .adcD), ([0b10001011], .adcE),
       ([0b10001100], .adcH), ([0b10001101], .adcL), ([0b10001110], .adcM), ([0b10001111], .adcA)] = true := by
  decide

/-- `10alusss`, alu 010 and 011 (41_arithmetic.md R139 to R143). -/
theorem test_decode_sub_sbb :
    decodesAll
      [([0b10010000], .subB), ([0b10010001], .subC), ([0b10010010], .subD), ([0b10010011], .subE),
       ([0b10010100], .subH), ([0b10010101], .subL), ([0b10010110], .subM), ([0b10010111], .subA),
       ([0b10011000], .sbbB), ([0b10011001], .sbbC), ([0b10011010], .sbbD), ([0b10011011], .sbbE),
       ([0b10011100], .sbbH), ([0b10011101], .sbbL), ([0b10011110], .sbbM), ([0b10011111], .sbbA)] = true := by
  decide

/-- `10alusss`, alu 100 and 101 (42_logical.md R171 to R175). -/
theorem test_decode_ana_xra :
    decodesAll
      [([0b10100000], .anaB), ([0b10100001], .anaC), ([0b10100010], .anaD), ([0b10100011], .anaE),
       ([0b10100100], .anaH), ([0b10100101], .anaL), ([0b10100110], .anaM), ([0b10100111], .anaA),
       ([0b10101000], .xraB), ([0b10101001], .xraC), ([0b10101010], .xraD), ([0b10101011], .xraE),
       ([0b10101100], .xraH), ([0b10101101], .xraL), ([0b10101110], .xraM), ([0b10101111], .xraA)] = true := by
  decide

/-- `10alusss`, alu 110 and 111 (42_logical.md R177 to R181). -/
theorem test_decode_ora_cmp :
    decodesAll
      [([0b10110000], .oraB), ([0b10110001], .oraC), ([0b10110010], .oraD), ([0b10110011], .oraE),
       ([0b10110100], .oraH), ([0b10110101], .oraL), ([0b10110110], .oraM), ([0b10110111], .oraA),
       ([0b10111000], .cmpB), ([0b10111001], .cmpC), ([0b10111010], .cmpD), ([0b10111011], .cmpE),
       ([0b10111100], .cmpH), ([0b10111101], .cmpL), ([0b10111110], .cmpM), ([0b10111111], .cmpA)] = true := by
  decide

/-- `11alu110` (30_encoding.md R79). -/
theorem test_decode_alu_immediate :
    decodesAll
      [([0b11000110, 0x5A], .adi 0x5A), ([0b11001110, 0x5A], .aci 0x5A), ([0b11010110, 0x5A], .sui 0x5A),
       ([0b11011110, 0x5A], .sbi 0x5A), ([0b11100110, 0x5A], .ani 0x5A), ([0b11101110, 0x5A], .xri 0x5A),
       ([0b11110110, 0x5A], .ori 0x5A), ([0b11111110, 0x5A], .cpi 0x5A)] = true := by
  decide

/-- `00ddd100` INR and `00ddd101` DCR (41_arithmetic.md R145 to R148). -/
theorem test_decode_inr_dcr :
    decodesAll
      [([0b00000100], .inrB), ([0b00000101], .dcrB), ([0b00001100], .inrC), ([0b00001101], .dcrC),
       ([0b00010100], .inrD), ([0b00010101], .dcrD), ([0b00011100], .inrE), ([0b00011101], .dcrE),
       ([0b00100100], .inrH), ([0b00100101], .dcrH), ([0b00101100], .inrL), ([0b00101101], .dcrL),
       ([0b00110100], .inrM), ([0b00110101], .dcrM), ([0b00111100], .inrA), ([0b00111101], .dcrA)] = true := by
  decide

/-- `00rp0011` INX, `00rp1011` DCX, `00rp1001` DAD (41_arithmetic.md R149 to R151). -/
theorem test_decode_inx_dcx_dad :
    decodesAll
      [([0b00000011], .inxB), ([0b00001001], .dadB), ([0b00001011], .dcxB), ([0b00010011], .inxD),
       ([0b00011001], .dadD), ([0b00011011], .dcxD), ([0b00100011], .inxH), ([0b00101001], .dadH),
       ([0b00101011], .dcxH), ([0b00110011], .inxSP), ([0b00111001], .dadSP), ([0b00111011], .dcxSP)] = true := by
  decide

/-- The rotates, DAA, CMA, STC, CMC (41_arithmetic.md R152; 42_logical.md R183 to R189). -/
theorem test_decode_accumulator_and_carry :
    decodesAll
      [([0b00000111], .rlc), ([0b00001111], .rrc), ([0b00010111], .ral), ([0b00011111], .rar), ([0b00100111], .daa),
       ([0b00101111], .cma), ([0b00110111], .stc), ([0b00111111], .cmc)] = true := by
  decide

/-- `11ccc010` Jcc, `11ccc100` Ccc, JMP, CALL, PCHL (43_branch.md R200 to R204, R208). -/
theorem test_decode_jumps_and_calls :
    decodesAll
      [([0b11000010, 0x34, 0x12], .jnz 0x1234), ([0b11000011, 0x34, 0x12], .jmp 0x1234),
       ([0b11000100, 0x34, 0x12], .cnz 0x1234), ([0b11001010, 0x34, 0x12], .jz 0x1234),
       ([0b11001100, 0x34, 0x12], .cz 0x1234), ([0b11001101, 0x34, 0x12], .call 0x1234),
       ([0b11010010, 0x34, 0x12], .jnc 0x1234), ([0b11010100, 0x34, 0x12], .cnc 0x1234),
       ([0b11011010, 0x34, 0x12], .jc 0x1234), ([0b11011100, 0x34, 0x12], .cc 0x1234),
       ([0b11100010, 0x34, 0x12], .jpo 0x1234), ([0b11100100, 0x34, 0x12], .cpo 0x1234), ([0b11101001], .pchl),
       ([0b11101010, 0x34, 0x12], .jpe 0x1234), ([0b11101100, 0x34, 0x12], .cpe 0x1234),
       ([0b11110010, 0x34, 0x12], .jp 0x1234), ([0b11110100, 0x34, 0x12], .cp 0x1234),
       ([0b11111010, 0x34, 0x12], .jm 0x1234), ([0b11111100, 0x34, 0x12], .cm 0x1234)] = true := by
  decide

/-- `11ccc000` Rcc, `11nnn111` RST, RET (43_branch.md R205 to R207). -/
theorem test_decode_returns_and_restarts :
    decodesAll
      [([0b11000000], .rnz), ([0b11000111], .rst0), ([0b11001000], .rz), ([0b11001001], .ret), ([0b11001111], .rst1),
       ([0b11010000], .rnc), ([0b11010111], .rst2), ([0b11011000], .rc), ([0b11011111], .rst3), ([0b11100000], .rpo),
       ([0b11100111], .rst4), ([0b11101000], .rpe), ([0b11101111], .rst5), ([0b11110000], .rp), ([0b11110111], .rst6),
       ([0b11111000], .rm), ([0b11111111], .rst7)] = true := by
  decide

/-- `11rp0101` PUSH, `11rp0001` POP, XTHL, SPHL (44_stack.md R222 to R227). -/
theorem test_decode_stack :
    decodesAll
      [([0b11000001], .popB), ([0b11000101], .pushB), ([0b11010001], .popD), ([0b11010101], .pushD),
       ([0b11100001], .popH), ([0b11100011], .xthl), ([0b11100101], .pushH), ([0b11110001], .popPSW),
       ([0b11110101], .pushPSW), ([0b11111001], .sphl)] = true := by
  decide

/-- IN, OUT, EI, DI, NOP (45_io_control.md R240 to R245). -/
theorem test_decode_io_and_control :
    decodesAll
      [([0b00000000], .nop), ([0b11010011, 0x5A], .outPort 0x5A), ([0b11011011, 0x5A], .inPort 0x5A),
       ([0b11110011], .di), ([0b11111011], .ei)] = true := by
  decide

/-- The twelve undefined opcodes (30_encoding.md R82), with the operand bytes of their aliases (45_io_control.md R246). -/
theorem test_decode_undefined :
    decodesAll
      [([0b00001000], .undef08), ([0b00010000], .undef10), ([0b00011000], .undef18), ([0b00100000], .undef20),
       ([0b00101000], .undef28), ([0b00110000], .undef30), ([0b00111000], .undef38),
       ([0b11001011, 0x34, 0x12], .undefCB 0x1234), ([0b11011001], .undefD9),
       ([0b11011101, 0x34, 0x12], .undefDD 0x1234), ([0b11101101, 0x34, 0x12], .undefED 0x1234),
       ([0b11111101, 0x34, 0x12], .undefFD 0x1234)] = true := by
  decide

/-- Too few bytes are rejected by name, and no bytes too. -/
theorem test_decode_rejects_short_words :
    decode [0b11000011, 0x34] = .rejected (.missingOperand 0xC3) ∧ decode [] = .rejected .noBytes := by
  decide

/-! ## Single steps: vectors of 95_test_vectors.md -/

/-- Memory with these bytes stored, one after another. -/
def stored (m : Memory) (cells : List (Word × Byte)) : Memory := cells.foldl (fun m c => m.write c.1 c.2) m

/-- The start state of a vector: the instruction bytes at the pc, and other memory bytes; everything else as after reset. -/
def start (pc : Word) (bytes : List Byte) (cells : List (Word × Byte)) : State :=
  { State.reset with pc := pc, mem := stored (Memory.loadImage [] pc bytes) cells }

/-- Does one step from `s` give exactly the state `after s`? -/
def stepGives (s : State) (after : State → State) : Bool :=
  match step s with
  | .next t => decide (t = after s)
  | _ => false

/-- V40.1, MOV D,B. -/
theorem test_v40_1_movDB :
    stepGives { start 0x0100 [0x50] [] with b := 0x12 }
      (fun s => { s with d := 0x12, pc := 0x0101, lastReturn := .cycles 5 }) = true := by
  decide

/-- V40.2, MOV B,B. -/
theorem test_v40_2_movBB :
    stepGives { start 0x0100 [0x40] [] with b := 0x12, flags := { Flags.reset with z := true, cy := true } }
      (fun s => { s with pc := 0x0101, lastReturn := .cycles 5 }) = true := by
  decide

/-- V40.3, MOV A,M. -/
theorem test_v40_3_movAM :
    stepGives { start 0x0100 [0x7E] [(0xFFFF, 0x5A)] with h := 0xFF, l := 0xFF }
      (fun s => { s with a := 0x5A, pc := 0x0101, lastReturn := .cycles 7 }) = true := by
  decide

/-- V40.4, MOV M,H. -/
theorem test_v40_4_movMH :
    stepGives { start 0x0100 [0x74] [] with h := 0x20, l := 0x10 }
      (fun s => { s with pc := 0x0101, lastReturn := .cycles 7, mem := stored s.mem [(0x2010, 0x20)] }) = true := by
  decide

/-- V40.5, MOV L,M. -/
theorem test_v40_5_movLM :
    stepGives { start 0x0100 [0x6E] [(0x2010, 0x99)] with h := 0x20, l := 0x10 }
      (fun s => { s with l := 0x99, pc := 0x0101, lastReturn := .cycles 7 }) = true := by
  decide

/-- V40.6, MVI C,0x9C at 0xFFFF. -/
theorem test_v40_6_mviC :
    stepGives (start 0xFFFF [0x0E, 0x9C] [])
      (fun s => { s with c := 0x9C, pc := 0x0001, lastReturn := .cycles 7 }) = true := by
  decide

/-- V40.7, MVI M,0xFF. -/
theorem test_v40_7_mviM :
    stepGives { start 0x0100 [0x36, 0xFF] [] with h := 0x30, l := 0x00 }
      (fun s => { s with pc := 0x0102, lastReturn := .cycles 10, mem := stored s.mem [(0x3000, 0xFF)] }) = true := by
  decide

/-- V40.8, LXI H,0x1234. -/
theorem test_v40_8_lxiH :
    stepGives (start 0x0100 [0x21, 0x34, 0x12] [])
      (fun s => { s with h := 0x12, l := 0x34, pc := 0x0103, lastReturn := .cycles 10 }) = true := by
  decide

/-- V40.10, LDA 0x2400. -/
theorem test_v40_10_lda :
    stepGives (start 0x0100 [0x3A, 0x00, 0x24] [(0x2400, 0x77)])
      (fun s => { s with a := 0x77, pc := 0x0103, lastReturn := .cycles 13 }) = true := by
  decide

/-- V40.11, STA 0x2401. -/
theorem test_v40_11_sta :
    stepGives { start 0x0100 [0x32, 0x01, 0x24] [] with a := 0x42 }
      (fun s => { s with pc := 0x0103, lastReturn := .cycles 13, mem := stored s.mem [(0x2401, 0x42)] }) = true := by
  decide

/-- V40.12, LHLD 0xFFFF. -/
theorem test_v40_12_lhld :
    stepGives (start 0x0100 [0x2A, 0xFF, 0xFF] [(0x0000, 0xAB), (0xFFFF, 0xCD)])
      (fun s => { s with h := 0xAB, l := 0xCD, pc := 0x0103, lastReturn := .cycles 16 }) = true := by
  decide

/-- V40.13, SHLD 0xFFFF. -/
theorem test_v40_13_shld :
    stepGives { start 0x0100 [0x22, 0xFF, 0xFF] [] with h := 0xAB, l := 0xCD }
      (fun s => { s with
        pc := 0x0103, lastReturn := .cycles 16, mem := stored s.mem [(0x0000, 0xAB), (0xFFFF, 0xCD)] }) = true := by
  decide

/-- V40.14, LDAX B. -/
theorem test_v40_14_ldaxB :
    stepGives { start 0x0100 [0x0A] [(0x2005, 0x11)] with b := 0x20, c := 0x05 }
      (fun s => { s with a := 0x11, pc := 0x0101, lastReturn := .cycles 7 }) = true := by
  decide

/-- V40.15, STAX D. -/
theorem test_v40_15_staxD :
    stepGives { start 0x0100 [0x12] [] with d := 0x30, e := 0x00, a := 0x99 }
      (fun s => { s with pc := 0x0101, lastReturn := .cycles 7, mem := stored s.mem [(0x3000, 0x99)] }) = true := by
  decide

/-- V40.16, XCHG. -/
theorem test_v40_16_xchg :
    stepGives { start 0x0100 [0xEB] [] with d := 0x12, e := 0x34, h := 0x56, l := 0x78 }
      (fun s => { s with
        d := 0x56, e := 0x78, h := 0x12, l := 0x34, pc := 0x0101, lastReturn := .cycles 4 }) = true := by
  decide

/-- V40.17, STA 0x0101 (own operand byte). -/
theorem test_v40_17_sta :
    stepGives { start 0x0100 [0x32, 0x01, 0x01] [] with a := 0x55 }
      (fun s => { s with pc := 0x0103, lastReturn := .cycles 13, mem := stored s.mem [(0x0101, 0x55)] }) = true := by
  decide

/-- V41.2, ADI 0xC2. -/
theorem test_v41_2_adi :
    stepGives { start 0x0100 [0xC6, 0xC2] [] with a := 0x3E }
      (fun s => { s with
        a := 0x00, flags := { Flags.reset with z := true, p := true, cy := true, ac := true }, pc := 0x0102
        lastReturn := .cycles 7 }) = true := by
  decide

/-- V41.3, ADD A. -/
theorem test_v41_3_addA :
    stepGives { start 0x0100 [0x87] [] with a := 0x80 }
      (fun s => { s with
        a := 0x00, flags := { Flags.reset with z := true, p := true, cy := true }, pc := 0x0101
        lastReturn := .cycles 4 }) = true := by
  decide

/-- V41.4, ADD B. -/
theorem test_v41_4_addB :
    stepGives { start 0x0100 [0x80] [] with a := 0x6C, b := 0x2E }
      (fun s => { s with
        a := 0x9A, flags := { Flags.reset with s := true, p := true, ac := true }, pc := 0x0101
        lastReturn := .cycles 4 }) = true := by
  decide

/-- V41.6, ADC B. -/
theorem test_v41_6_adcB :
    stepGives { start 0x0100 [0x88] [] with a := 0xFF, b := 0x00, flags := { Flags.reset with cy := true } }
      (fun s => { s with
        a := 0x00, flags := { Flags.reset with z := true, p := true, cy := true, ac := true }, pc := 0x0101
        lastReturn := .cycles 4 }) = true := by
  decide

/-- V41.7, ACI 0x0F. -/
theorem test_v41_7_aci :
    stepGives { start 0x0100 [0xCE, 0x0F] [] with a := 0x00, flags := { Flags.reset with cy := true } }
      (fun s => { s with
        a := 0x10, flags := { Flags.reset with ac := true }, pc := 0x0102, lastReturn := .cycles 7 }) = true := by
  decide

/-- V41.8, ADD M. -/
theorem test_v41_8_addM :
    stepGives { start 0x0100 [0x86] [(0x2000, 0x0F)] with a := 0x01, h := 0x20, l := 0x00 }
      (fun s => { s with
        a := 0x10, flags := { Flags.reset with ac := true }, pc := 0x0101, lastReturn := .cycles 7 }) = true := by
  decide

/-- V41.9, SUB A. -/
theorem test_v41_9_subA :
    stepGives { start 0x0100 [0x97] [] with a := 0x3E, flags := { Flags.reset with cy := true } }
      (fun s => { s with
        a := 0x00, flags := { Flags.reset with z := true, p := true, ac := true }, pc := 0x0101
        lastReturn := .cycles 4 }) = true := by
  decide

/-- V41.10, SUB B. -/
theorem test_v41_10_subB :
    stepGives { start 0x0100 [0x90] [] with a := 0x00, b := 0x01 }
      (fun s => { s with
        a := 0xFF, flags := { Flags.reset with s := true, p := true, cy := true }, pc := 0x0101
        lastReturn := .cycles 4 }) = true := by
  decide

/-- V41.11, SUI 0x10. -/
theorem test_v41_11_sui :
    stepGives { start 0x0100 [0xD6, 0x10] [] with a := 0x10 }
      (fun s => { s with
        a := 0x00, flags := { Flags.reset with z := true, p := true, ac := true }, pc := 0x0102
        lastReturn := .cycles 7 }) = true := by
  decide

/-- V41.12, SUB B. -/
theorem test_v41_12_subB :
    stepGives { start 0x0100 [0x90] [] with a := 0x80, b := 0x01 }
      (fun s => { s with a := 0x7F, pc := 0x0101, lastReturn := .cycles 4 }) = true := by
  decide

/-- V41.13, SBB B. -/
theorem test_v41_13_sbbB :
    stepGives { start 0x0100 [0x98] [] with a := 0x00, b := 0x00, flags := { Flags.reset with cy := true } }
      (fun s => { s with
        a := 0xFF, flags := { Flags.reset with s := true, p := true, cy := true }, pc := 0x0101
        lastReturn := .cycles 4 }) = true := by
  decide

/-- V41.14, SBB A. -/
theorem test_v41_14_sbbA :
    stepGives { start 0x0100 [0x9F] [] with a := 0x55, flags := { Flags.reset with cy := true } }
      (fun s => { s with
        a := 0xFF, flags := { Flags.reset with s := true, p := true, cy := true }, pc := 0x0101
        lastReturn := .cycles 4 }) = true := by
  decide

/-- V41.16, SBI 0x01. -/
theorem test_v41_16_sbi :
    stepGives { start 0x0100 [0xDE, 0x01] [] with a := 0x02, flags := { Flags.reset with cy := true } }
      (fun s => { s with
        a := 0x00, flags := { Flags.reset with z := true, p := true, ac := true }, pc := 0x0102
        lastReturn := .cycles 7 }) = true := by
  decide

/-- V41.17, SBB M. -/
theorem test_v41_17_sbbM :
    stepGives
      { start 0x0100 [0x9E] [(0x2000, 0x0F)] with
        a := 0x10, h := 0x20, l := 0x00, flags := { Flags.reset with cy := true } }
      (fun s => { s with
        a := 0x00, flags := { Flags.reset with z := true, p := true }, pc := 0x0101, lastReturn := .cycles 7 }) = true := by
  decide

/-- V41.18, INR A. -/
theorem test_v41_18_inrA :
    stepGives { start 0x0100 [0x3C] [] with a := 0xFF, flags := { Flags.reset with cy := true } }
      (fun s => { s with
        a := 0x00, flags := { Flags.reset with z := true, p := true, cy := true, ac := true }, pc := 0x0101
        lastReturn := .cycles 5 }) = true := by
  decide

/-- V41.19, INR C. -/
theorem test_v41_19_inrC :
    stepGives { start 0x0100 [0x0C] [] with c := 0x0F }
      (fun s => { s with
        c := 0x10, flags := { Flags.reset with ac := true }, pc := 0x0101, lastReturn := .cycles 5 }) = true := by
  decide

/-- V41.20, INR B. -/
theorem test_v41_20_inrB :
    stepGives { start 0x0100 [0x04] [] with b := 0x7F }
      (fun s => { s with
        b := 0x80, flags := { Flags.reset with s := true, ac := true }, pc := 0x0101, lastReturn := .cycles 5 }) = true := by
  decide

/-- V41.21, INR M. -/
theorem test_v41_21_inrM :
    stepGives { start 0x0100 [0x34] [(0x2000, 0x2F)] with h := 0x20, l := 0x00 }
      (fun s => { s with
        flags := { Flags.reset with p := true, ac := true }, pc := 0x0101, lastReturn := .cycles 10
        mem := stored s.mem [(0x2000, 0x30)] }) = true := by
  decide

/-- V41.22, DCR B. -/
theorem test_v41_22_dcrB :
    stepGives { start 0x0100 [0x05] [] with b := 0x00 }
      (fun s => { s with
        b := 0xFF, flags := { Flags.reset with s := true, p := true }, pc := 0x0101, lastReturn := .cycles 5 }) = true := by
  decide

/-- V41.23, DCR A. -/
theorem test_v41_23_dcrA :
    stepGives { start 0x0100 [0x3D] [] with a := 0x01 }
      (fun s => { s with
        a := 0x00, flags := { Flags.reset with z := true, p := true, ac := true }, pc := 0x0101
        lastReturn := .cycles 5 }) = true := by
  decide

/-- V41.24, DCR E. -/
theorem test_v41_24_dcrE :
    stepGives { start 0x0100 [0x1D] [] with e := 0x10 }
      (fun s => { s with
        e := 0x0F, flags := { Flags.reset with p := true }, pc := 0x0101, lastReturn := .cycles 5 }) = true := by
  decide

/-- V41.25, DCR M. -/
theorem test_v41_25_dcrM :
    stepGives { start 0x0100 [0x35] [(0x2000, 0x80)] with h := 0x20, l := 0x00 }
      (fun s => { s with pc := 0x0101, lastReturn := .cycles 10, mem := stored s.mem [(0x2000, 0x7F)] }) = true := by
  decide

/-- V41.26, INX SP. -/
theorem test_v41_26_inxSP :
    stepGives { start 0x0100 [0x33] [] with sp := 0xFFFF }
      (fun s => { s with sp := 0x0000, pc := 0x0101, lastReturn := .cycles 5 }) = true := by
  decide

/-- V41.27, INX H. -/
theorem test_v41_27_inxH :
    stepGives { start 0x0100 [0x23] [] with h := 0x00, l := 0xFF }
      (fun s => { s with h := 0x01, l := 0x00, pc := 0x0101, lastReturn := .cycles 5 }) = true := by
  decide

/-- V41.28, DCX B. -/
theorem test_v41_28_dcxB :
    stepGives { start 0x0100 [0x0B] [] with b := 0x00, c := 0x00 }
      (fun s => { s with b := 0xFF, c := 0xFF, pc := 0x0101, lastReturn := .cycles 5 }) = true := by
  decide

/-- V41.29, DAD H. -/
theorem test_v41_29_dadH :
    stepGives { start 0x0100 [0x29] [] with h := 0x80, l := 0x00, flags := { Flags.reset with z := true } }
      (fun s => { s with
        h := 0x00, flags := { Flags.reset with z := true, cy := true }, pc := 0x0101, lastReturn := .cycles 10 }) = true := by
  decide

/-- V41.30, DAD B. -/
theorem test_v41_30_dadB :
    stepGives { start 0x0100 [0x09] [] with b := 0x33, c := 0x9F, h := 0xA1, l := 0x7B }
      (fun s => { s with h := 0xD5, l := 0x1A, pc := 0x0101, lastReturn := .cycles 10 }) = true := by
  decide

/-- V41.38, DAA. -/
theorem test_v41_38_daa :
    stepGives { start 0x0100 [0x27] [] with a := 0xFF }
      (fun s => { s with
        a := 0x65, flags := { Flags.reset with p := true, cy := true, ac := true }, pc := 0x0101
        lastReturn := .cycles 4 }) = true := by
  decide

/-- V41.39, DAA. -/
theorem test_v41_39_daa :
    stepGives { start 0x0100 [0x27] [] with a := 0x3A, flags := { Flags.reset with cy := true, ac := true } }
      (fun s => { s with
        a := 0xA0, flags := { Flags.reset with s := true, p := true, cy := true, ac := true }, pc := 0x0101
        lastReturn := .cycles 4 }) = true := by
  decide

/-- V42.1, ANA C (clear). -/
theorem test_v42_1_anaC :
    stepGives { start 0x0100 [0xA1] [] with a := 0xFC, c := 0x0F }
      (fun s => { s with
        a := 0x0C, flags := { Flags.reset with p := true }, pc := 0x0101, lastReturn := .cycles 4 }) = true := by
  decide

/-- V42.2, ANA C (or_bit3). -/
theorem test_v42_2_anaC :
    stepGives
      { start 0x0100 [0xA1] [] with
        a := 0xFC, c := 0x0F, params := { Params.reset with anaAcMode := .orBit3 } }
      (fun s => { s with
        a := 0x0C, flags := { Flags.reset with p := true, ac := true }, pc := 0x0101, lastReturn := .cycles 4 }) = true := by
  decide

/-- V42.4, ANA A (or_bit3). -/
theorem test_v42_4_anaA :
    stepGives
      { start 0x0100 [0xA7] [] with
        a := 0x08, flags := { Flags.reset with cy := true }
        params := { Params.reset with anaAcMode := .orBit3 } }
      (fun s => { s with
        flags := { Flags.reset with ac := true }, pc := 0x0101, lastReturn := .cycles 4 }) = true := by
  decide

/-- V42.5, ANI 0x00 (or_bit3). -/
theorem test_v42_5_ani :
    stepGives { start 0x0100 [0xE6, 0x00] [] with a := 0x00, params := { Params.reset with anaAcMode := .orBit3 } }
      (fun s => { s with
        flags := { Flags.reset with z := true, p := true }, pc := 0x0102, lastReturn := .cycles 7 }) = true := by
  decide

/-- V42.6, XRA A. -/
theorem test_v42_6_xraA :
    stepGives { start 0x0100 [0xAF] [] with a := 0x5C, flags := { Flags.reset with cy := true, ac := true } }
      (fun s => { s with
        a := 0x00, flags := { Flags.reset with z := true, p := true }, pc := 0x0101, lastReturn := .cycles 4 }) = true := by
  decide

/-- V42.7, XRI 0xFF. -/
theorem test_v42_7_xri :
    stepGives { start 0x0100 [0xEE, 0xFF] [] with a := 0x0F }
      (fun s => { s with
        a := 0xF0, flags := { Flags.reset with s := true, p := true }, pc := 0x0102, lastReturn := .cycles 7 }) = true := by
  decide

/-- V42.8, ORA B. -/
theorem test_v42_8_oraB :
    stepGives { start 0x0100 [0xB0] [] with a := 0x33, b := 0x0F, flags := { Flags.reset with cy := true } }
      (fun s => { s with
        a := 0x3F, flags := { Flags.reset with p := true }, pc := 0x0101, lastReturn := .cycles 4 }) = true := by
  decide

/-- V42.9, ORI 0x80. -/
theorem test_v42_9_ori :
    stepGives { start 0x0100 [0xF6, 0x80] [] with a := 0x00 }
      (fun s => { s with
        a := 0x80, flags := { Flags.reset with s := true }, pc := 0x0102, lastReturn := .cycles 7 }) = true := by
  decide

/-- V42.10, ORA M. -/
theorem test_v42_10_oraM :
    stepGives { start 0x0100 [0xB6] [(0x2000, 0x00)] with a := 0x00, h := 0x20, l := 0x00 }
      (fun s => { s with
        flags := { Flags.reset with z := true, p := true }, pc := 0x0101, lastReturn := .cycles 7 }) = true := by
  decide

/-- V42.11, CMP B (equal). -/
theorem test_v42_11_cmpB :
    stepGives { start 0x0100 [0xB8] [] with a := 0x0A, b := 0x0A }
      (fun s => { s with
        flags := { Flags.reset with z := true, p := true, ac := true }, pc := 0x0101, lastReturn := .cycles 4 }) = true := by
  decide

/-- V42.12, CMP B (A less). -/
theorem test_v42_12_cmpB :
    stepGives { start 0x0100 [0xB8] [] with a := 0x02, b := 0x05 }
      (fun s => { s with
        flags := { Flags.reset with s := true, cy := true }, pc := 0x0101, lastReturn := .cycles 4 }) = true := by
  decide

/-- V42.13, CPI 0x40 (A greater). -/
theorem test_v42_13_cpi :
    stepGives { start 0x0100 [0xFE, 0x40] [] with a := 0x4A }
      (fun s => { s with
        flags := { Flags.reset with p := true, ac := true }, pc := 0x0102, lastReturn := .cycles 7 }) = true := by
  decide

/-- V42.14, CMP M. -/
theorem test_v42_14_cmpM :
    stepGives { start 0x0100 [0xBE] [(0x2000, 0x80)] with a := 0x00, h := 0x20, l := 0x00 }
      (fun s => { s with
        flags := { Flags.reset with s := true, cy := true, ac := true }, pc := 0x0101, lastReturn := .cycles 7 }) = true := by
  decide

/-- V42.15, CMP A. -/
theorem test_v42_15_cmpA :
    stepGives { start 0x0100 [0xBF] [] with a := 0x9C, flags := { Flags.reset with cy := true } }
      (fun s => { s with
        flags := { Flags.reset with z := true, p := true, ac := true }, pc := 0x0101, lastReturn := .cycles 4 }) = true := by
  decide

/-- V42.16, RLC. -/
theorem test_v42_16_rlc :
    stepGives { start 0x0100 [0x07] [] with a := 0xF2 }
      (fun s => { s with
        a := 0xE5, flags := { Flags.reset with cy := true }, pc := 0x0101, lastReturn := .cycles 4 }) = true := by
  decide

/-- V42.17, RRC. -/
theorem test_v42_17_rrc :
    stepGives { start 0x0100 [0x0F] [] with a := 0x01 }
      (fun s => { s with
        a := 0x80, flags := { Flags.reset with cy := true }, pc := 0x0101, lastReturn := .cycles 4 }) = true := by
  decide

/-- V42.18, RAL. -/
theorem test_v42_18_ral :
    stepGives { start 0x0100 [0x17] [] with a := 0xB5 }
      (fun s => { s with
        a := 0x6A, flags := { Flags.reset with cy := true }, pc := 0x0101, lastReturn := .cycles 4 }) = true := by
  decide

/-- V42.19, RAR. -/
theorem test_v42_19_rar :
    stepGives { start 0x0100 [0x1F] [] with a := 0x6A, flags := { Flags.reset with cy := true } }
      (fun s => { s with a := 0xB5, flags := Flags.reset, pc := 0x0101, lastReturn := .cycles 4 }) = true := by
  decide

/-- V42.21, CMA. -/
theorem test_v42_21_cma :
    stepGives { start 0x0100 [0x2F] [] with a := 0x51 }
      (fun s => { s with a := 0xAE, pc := 0x0101, lastReturn := .cycles 4 }) = true := by
  decide

/-- V42.23, CMC. -/
theorem test_v42_23_cmc :
    stepGives { start 0x0100 [0x3F] [] with flags := { Flags.reset with cy := true } }
      (fun s => { s with flags := Flags.reset, pc := 0x0101, lastReturn := .cycles 4 }) = true := by
  decide

/-- V42.24, STC. -/
theorem test_v42_24_stc :
    stepGives (start 0x0100 [0x37] [])
      (fun s => { s with
        flags := { Flags.reset with cy := true }, pc := 0x0101, lastReturn := .cycles 4 }) = true := by
  decide

/-- V42.P7, ORI 0x00, 7 bits set. -/
theorem test_v42_P7_ori :
    stepGives { start 0x0100 [0xF6, 0x00] [] with a := 0x7F }
      (fun s => { s with pc := 0x0102, lastReturn := .cycles 7 }) = true := by
  decide

/-- V43.1, JMP 0x0100. -/
theorem test_v43_1_jmp :
    stepGives (start 0x0050 [0xC3, 0x00, 0x01] [])
      (fun s => { s with pc := 0x0100, lastReturn := .cycles 10 }) = true := by
  decide

/-- V43.2, JNZ 0x0200 (Z=0). -/
theorem test_v43_2_jnz :
    stepGives (start 0x0010 [0xC2, 0x00, 0x02] [])
      (fun s => { s with pc := 0x0200, lastReturn := .cycles 10 }) = true := by
  decide

/-- V43.3, JNZ 0x0200 (Z=1). -/
theorem test_v43_3_jnz :
    stepGives { start 0x0010 [0xC2, 0x00, 0x02] [] with flags := { Flags.reset with z := true } }
      (fun s => { s with pc := 0x0013, lastReturn := .cycles 10 }) = true := by
  decide

/-- V43.4, JC 0x1234. -/
theorem test_v43_4_jc :
    stepGives { start 0x0100 [0xDA, 0x34, 0x12] [] with flags := { Flags.reset with cy := true } }
      (fun s => { s with pc := 0x1234, lastReturn := .cycles 10 }) = true := by
  decide

/-- V43.5, JPO 0x1234 (P=1). -/
theorem test_v43_5_jpo :
    stepGives { start 0x0100 [0xE2, 0x34, 0x12] [] with flags := { Flags.reset with p := true } }
      (fun s => { s with pc := 0x0103, lastReturn := .cycles 10 }) = true := by
  decide

/-- V43.6, JPE 0x1234. -/
theorem test_v43_6_jpe :
    stepGives { start 0x0100 [0xEA, 0x34, 0x12] [] with flags := { Flags.reset with p := true } }
      (fun s => { s with pc := 0x1234, lastReturn := .cycles 10 }) = true := by
  decide

/-- V43.7, JP 0x1234 (S=1). -/
theorem test_v43_7_jp :
    stepGives { start 0x0100 [0xF2, 0x34, 0x12] [] with flags := { Flags.reset with s := true } }
      (fun s => { s with pc := 0x0103, lastReturn := .cycles 10 }) = true := by
  decide

/-- V43.8, JM 0x1234. -/
theorem test_v43_8_jm :
    stepGives { start 0x0100 [0xFA, 0x34, 0x12] [] with flags := { Flags.reset with s := true } }
      (fun s => { s with pc := 0x1234, lastReturn := .cycles 10 }) = true := by
  decide

/-- V43.9, JMP at 0xFFFE. -/
theorem test_v43_9_jmp :
    stepGives (start 0xFFFE [0xC3, 0x34, 0x12] [])
      (fun s => { s with pc := 0x1234, lastReturn := .cycles 10 }) = true := by
  decide

/-- V43.10, CALL 0x1000. -/
theorem test_v43_10_call :
    stepGives { start 0x0123 [0xCD, 0x00, 0x10] [] with sp := 0x2400 }
      (fun s => { s with
        sp := 0x23FE, pc := 0x1000, lastReturn := .cycles 17
        mem := stored s.mem [(0x23FE, 0x26), (0x23FF, 0x01)] }) = true := by
  decide

/-- V43.11, CALL 0x1000 (sp=0x0001). -/
theorem test_v43_11_call :
    stepGives { start 0x0123 [0xCD, 0x00, 0x10] [] with sp := 0x0001 }
      (fun s => { s with
        sp := 0xFFFF, pc := 0x1000, lastReturn := .cycles 17
        mem := stored s.mem [(0x0000, 0x01), (0xFFFF, 0x26)] }) = true := by
  decide

/-- V43.12, CC 0x1000 (CY=1). -/
theorem test_v43_12_cc :
    stepGives { start 0x0050 [0xDC, 0x00, 0x10] [] with flags := { Flags.reset with cy := true }, sp := 0x2400 }
      (fun s => { s with
        sp := 0x23FE, pc := 0x1000, lastReturn := .cycles 17, mem := stored s.mem [(0x23FE, 0x53)] }) = true := by
  decide

/-- V43.13, CNZ 0x1000 (Z=1). -/
theorem test_v43_13_cnz :
    stepGives { start 0x0050 [0xC4, 0x00, 0x10] [] with flags := { Flags.reset with z := true }, sp := 0x2400 }
      (fun s => { s with pc := 0x0053, lastReturn := .cycles 11 }) = true := by
  decide

/-- V43.14, RET. -/
theorem test_v43_14_ret :
    stepGives { start 0x0100 [0xC9] [(0x23FE, 0x26), (0x23FF, 0x01)] with sp := 0x23FE }
      (fun s => { s with sp := 0x2400, pc := 0x0126, lastReturn := .cycles 10 }) = true := by
  decide

/-- V43.15, RET (sp=0xFFFF). -/
theorem test_v43_15_ret :
    stepGives { start 0x0100 [0xC9] [(0x0000, 0x12), (0xFFFF, 0x34)] with sp := 0xFFFF }
      (fun s => { s with sp := 0x0001, pc := 0x1234, lastReturn := .cycles 10 }) = true := by
  decide

/-- V43.16, RZ (Z=1). -/
theorem test_v43_16_rz :
    stepGives
      { start 0x0100 [0xC8] [(0x23FE, 0x26), (0x23FF, 0x01)] with
        flags := { Flags.reset with z := true }, sp := 0x23FE }
      (fun s => { s with sp := 0x2400, pc := 0x0126, lastReturn := .cycles 11 }) = true := by
  decide

/-- V43.17, RZ (Z=0). -/
theorem test_v43_17_rz :
    stepGives { start 0x0100 [0xC8] [(0x23FE, 0x26), (0x23FF, 0x01)] with sp := 0x23FE }
      (fun s => { s with pc := 0x0101, lastReturn := .cycles 5 }) = true := by
  decide

/-- V43.18, RST 1. -/
theorem test_v43_18_rst1 :
    stepGives { start 0x0200 [0xCF] [] with sp := 0x2400 }
      (fun s => { s with
        sp := 0x23FE, pc := 0x0008, lastReturn := .cycles 11
        mem := stored s.mem [(0x23FE, 0x01), (0x23FF, 0x02)] }) = true := by
  decide

/-- V43.19, RST 7 (INTE=1). -/
theorem test_v43_19_rst7 :
    stepGives { start 0x0200 [0xFF] [] with sp := 0x2400, inte := true }
      (fun s => { s with
        sp := 0x23FE, pc := 0x0038, lastReturn := .cycles 11
        mem := stored s.mem [(0x23FE, 0x01), (0x23FF, 0x02)] }) = true := by
  decide

/-- V43.20, PCHL. -/
theorem test_v43_20_pchl :
    stepGives { start 0x0100 [0xE9] [] with h := 0x41, l := 0x3E }
      (fun s => { s with pc := 0x413E, lastReturn := .cycles 5 }) = true := by
  decide

/-- V44.1, PUSH B. -/
theorem test_v44_1_pushB :
    stepGives { start 0x0100 [0xC5] [] with b := 0x8F, c := 0x9D, sp := 0x3A2C }
      (fun s => { s with
        sp := 0x3A2A, pc := 0x0101, lastReturn := .cycles 11
        mem := stored s.mem [(0x3A2A, 0x9D), (0x3A2B, 0x8F)] }) = true := by
  decide

/-- V44.2, PUSH D (sp=0x0000). -/
theorem test_v44_2_pushD :
    stepGives { start 0x0100 [0xD5] [] with d := 0x12, e := 0x34, sp := 0x0000 }
      (fun s => { s with
        sp := 0xFFFE, pc := 0x0101, lastReturn := .cycles 11
        mem := stored s.mem [(0xFFFE, 0x34), (0xFFFF, 0x12)] }) = true := by
  decide

/-- V44.3, PUSH PSW. -/
theorem test_v44_3_pushPSW :
    stepGives
      { start 0x0100 [0xF5] [] with
        a := 0x1F, flags := { Flags.reset with z := true, p := true, cy := true }, sp := 0x502A }
      (fun s => { s with
        sp := 0x5028, pc := 0x0101, lastReturn := .cycles 11
        mem := stored s.mem [(0x5028, 0x47), (0x5029, 0x1F)] }) = true := by
  decide

/-- V44.5, POP H. -/
theorem test_v44_5_popH :
    stepGives { start 0x0100 [0xE1] [(0x1239, 0x3D), (0x123A, 0x93)] with sp := 0x1239 }
      (fun s => { s with h := 0x93, l := 0x3D, sp := 0x123B, pc := 0x0101, lastReturn := .cycles 10 }) = true := by
  decide

/-- V44.6, POP B (sp=0xFFFF). -/
theorem test_v44_6_popB :
    stepGives { start 0x0100 [0xC1] [(0x0000, 0x22), (0xFFFF, 0x11)] with sp := 0xFFFF }
      (fun s => { s with b := 0x22, c := 0x11, sp := 0x0001, pc := 0x0101, lastReturn := .cycles 10 }) = true := by
  decide

/-- V44.7, POP PSW. -/
theorem test_v44_7_popPSW :
    stepGives { start 0x0100 [0xF1] [(0x2C00, 0xC3), (0x2C01, 0xFF)] with sp := 0x2C00 }
      (fun s => { s with
        a := 0xFF, flags := { Flags.reset with z := true, s := true, cy := true }, sp := 0x2C02, pc := 0x0101
        lastReturn := .cycles 10 }) = true := by
  decide

/-- V44.8, POP PSW. -/
theorem test_v44_8_popPSW :
    stepGives { start 0x0100 [0xF1] [(0x2C00, 0xFF), (0x2C01, 0x00)] with sp := 0x2C00 }
      (fun s => { s with
        flags := { Flags.reset with z := true, s := true, p := true, cy := true, ac := true }, sp := 0x2C02
        pc := 0x0101, lastReturn := .cycles 10 }) = true := by
  decide

/-- V44.10, XTHL. -/
theorem test_v44_10_xthl :
    stepGives { start 0x0100 [0xE3] [(0x10AD, 0xF0), (0x10AE, 0x0D)] with h := 0x0B, l := 0x3C, sp := 0x10AD }
      (fun s => { s with
        h := 0x0D, l := 0xF0, pc := 0x0101, lastReturn := .cycles 18
        mem := stored s.mem [(0x10AD, 0x3C), (0x10AE, 0x0B)] }) = true := by
  decide

/-- V44.11, XTHL (sp=0xFFFF). -/
theorem test_v44_11_xthl :
    stepGives { start 0x0100 [0xE3] [(0x0000, 0x0D), (0xFFFF, 0xF0)] with h := 0x0B, l := 0x3C, sp := 0xFFFF }
      (fun s => { s with
        h := 0x0D, l := 0xF0, pc := 0x0101, lastReturn := .cycles 18
        mem := stored s.mem [(0x0000, 0x0B), (0xFFFF, 0x3C)] }) = true := by
  decide

/-- V44.12, SPHL. -/
theorem test_v44_12_sphl :
    stepGives { start 0x0100 [0xF9] [] with h := 0x50, l := 0x6C }
      (fun s => { s with sp := 0x506C, pc := 0x0101, lastReturn := .cycles 5 }) = true := by
  decide

/-- V45.1, IN 0x01 (host answers 0x08). -/
theorem test_v45_1_inPort :
    stepGives { start 0x0100 [0xDB, 0x01] [] with flags := { Flags.reset with z := true }, portAnswers := [0x08] }
      (fun s => { s with
        a := 0x08, pc := 0x0102, portCalls := [.input 0x01 0x08], portAnswers := [], lastReturn := .cycles 10 }) = true := by
  decide

/-- V45.2, OUT 0x03. -/
theorem test_v45_2_outPort :
    stepGives { start 0x0100 [0xD3, 0x03] [] with a := 0x2A }
      (fun s => { s with pc := 0x0102, portCalls := [.output 0x03 0x2A], lastReturn := .cycles 10 }) = true := by
  decide

/-- V45.3, EI. -/
theorem test_v45_3_ei :
    stepGives (start 0x0100 [0xFB] [])
      (fun s => { s with pc := 0x0101, inte := true, lastReturn := .cycles 4 }) = true := by
  decide

/-- V45.4, DI. -/
theorem test_v45_4_di :
    stepGives { start 0x0100 [0xF3] [] with inte := true }
      (fun s => { s with pc := 0x0101, inte := false, lastReturn := .cycles 4 }) = true := by
  decide

/-- V45.5, HLT. -/
theorem test_v45_5_hlt :
    stepGives (start 0x0100 [0x76] [])
      (fun s => { s with pc := 0x0101, halted := true, lastReturn := .cycles 7 }) = true := by
  decide

/-- V45.6, any byte, halted=1. -/
theorem test_v45_6_inrA :
    stepGives { start 0x0100 [0x3C] [] with halted := true }
      (fun s => { s with lastReturn := .cycles 4 }) = true := by
  decide

/-- V45.7, NOP at 0xFFFF. -/
theorem test_v45_7_nop :
    stepGives (start 0xFFFF [0x00] [])
      (fun s => { s with pc := 0x0000, lastReturn := .cycles 4 }) = true := by
  decide

/-- V45.8, 0x08, policy fault. -/
theorem test_v45_8_undef08 :
    stepGives { start 0x0100 [0x08] [] with a := 0x11 }
      (fun s => { s with faulted := some ⟨0x08, 0x0100⟩, lastReturn := .fault ⟨0x08, 0x0100⟩ }) = true := by
  decide

/-- V45.9, 0x08, policy nop. -/
theorem test_v45_9_undef08 :
    stepGives { start 0x0100 [0x08] [] with a := 0x11, params := { Params.reset with undefPolicy := .nop } }
      (fun s => { s with pc := 0x0101, lastReturn := .cycles 4 }) = true := by
  decide

/-- V45.11, 0xCB 0x00 0x20, policy alias. -/
theorem test_v45_11_undefCB :
    stepGives { start 0x0100 [0xCB, 0x00, 0x20] [] with params := { Params.reset with undefPolicy := .aliased } }
      (fun s => { s with pc := 0x2000, lastReturn := .cycles 10 }) = true := by
  decide

/-- V45.12, 0xDD 0x00 0x20, policy alias. -/
theorem test_v45_12_undefDD :
    stepGives
      { start 0x0100 [0xDD, 0x00, 0x20] [] with
        sp := 0x2400, params := { Params.reset with undefPolicy := .aliased } }
      (fun s => { s with
        sp := 0x23FE, pc := 0x2000, lastReturn := .cycles 17
        mem := stored s.mem [(0x23FE, 0x03), (0x23FF, 0x01)] }) = true := by
  decide

/-- V45.13, 0xD9, policy alias. -/
theorem test_v45_13_undefD9 :
    stepGives
      { start 0x0100 [0xD9] [(0x23FE, 0x26), (0x23FF, 0x01)] with
        sp := 0x23FE, params := { Params.reset with undefPolicy := .aliased } }
      (fun s => { s with sp := 0x2400, pc := 0x0126, lastReturn := .cycles 10 }) = true := by
  decide

/-- V45.14, 0xFD, policy fault. -/
theorem test_v45_14_undefFD :
    stepGives { start 0x0100 [0xFD, 0x00, 0x20] [] with sp := 0x2400 }
      (fun s => { s with faulted := some ⟨0xFD, 0x0100⟩, lastReturn := .fault ⟨0xFD, 0x0100⟩ }) = true := by
  decide

/-- V45.15, 0xCB 0x00 0x20, policy nop. -/
theorem test_v45_15_undefCB :
    stepGives { start 0x0100 [0xCB, 0x00, 0x20] [] with params := { Params.reset with undefPolicy := .nop } }
      (fun s => { s with pc := 0x0101, lastReturn := .cycles 4 }) = true := by
  decide


/-! ## Interrupt requests: vectors V60.1 to V60.6 of 95_test_vectors.md -/

/-- V60.1: with INTE = 0 the request is dropped. -/
theorem test_v60_1_dropped :
    ({ start 0x0123 [] [] with sp := 0x2400, a := 0x55 } : State).raiseInterrupt =
      { start 0x0123 [] [] with sp := 0x2400, a := 0x55 } := by
  decide

/-- V60.2: with INTE = 1 it is accepted. -/
theorem test_v60_2_accepted :
    ({ start 0x0123 [] [] with sp := 0x2400, inte := true, flags := { Flags.reset with z := true } } : State).raiseInterrupt =
      { start 0x0008 [] [(0x23FE, 0x23), (0x23FF, 0x01)] with sp := 0x23FE, flags := { Flags.reset with z := true } } := by
  decide

/-- V60.3: sp wraps; another `INT_VECTOR`. -/
theorem test_v60_3_sp_wraps :
    ({ start 0xABCD [] [] with inte := true, params := { Params.reset with intVector := 0x0010 } } : State).raiseInterrupt =
      { start 0x0010 [] [(0xFFFE, 0xCD), (0xFFFF, 0xAB)] with
        sp := 0xFFFE, params := { Params.reset with intVector := 0x0010 } } := by
  decide

/-- V60.4: after a HLT at 0x0100 the address after the HLT is pushed, and the halt ends. -/
theorem test_v60_4_halted :
    ({ start 0x0101 [] [] with sp := 0x2400, inte := true, halted := true } : State).raiseInterrupt =
      { start 0x0008 [] [(0x23FE, 0x01), (0x23FF, 0x01)] with sp := 0x23FE } := by
  decide

/-- V60.5: after a decode fault the request has no effect. -/
theorem test_v60_5_faulted :
    ({ start 0x0100 [] [] with sp := 0x2400, inte := true, faulted := some ⟨0x08, 0x0100⟩ } : State).raiseInterrupt =
      { start 0x0100 [] [] with sp := 0x2400, inte := true, faulted := some ⟨0x08, 0x0100⟩ } := by
  decide

/-- V60.6: the interrupt is taken before the undefined opcode at the pc. -/
theorem test_v60_6_before_undefined_opcode :
    ({ start 0x0100 [0x08] [] with sp := 0x2400, inte := true } : State).raiseInterrupt =
      { start 0x0008 [] [(0x0100, 0x08), (0x23FF, 0x01)] with sp := 0x23FE } := by
  decide

/-! ## Witnesses: concrete states and operands that meet the hypotheses of the statements, clause by clause -/

/-- A launch with an image of these bytes at 0xFFFF, so that it wraps, over an `INIT_MEM` of one byte. -/
def sampleLaunch (image : List Byte) : Launch :=
  { entry := 0xFFFF, spInit := 0x2400, imageBase := 0xFFFF, image := image, initMem := [(0x1234, 0x77)], params := Params.reset
    answers := [] }

/-- A halted processor with interrupts disabled. -/
def sampleHalted : State := { State.reset with halted := true }

/-- A session after the decode fault at 0x0100. -/
def sampleFaulted : State :=
  { start 0x0100 [0x08] [] with faulted := some ⟨0x08, 0x0100⟩, lastReturn := .fault ⟨0x08, 0x0100⟩ }

/-- StepRunsTheDecodedInstruction, with the operand byte at the wrapped address. -/
theorem test_witness_step_runs :
    (start 0xFFFF [0x0E, 0x9C] []).faulted = none ∧ (start 0xFFFF [0x0E, 0x9C] []).halted = false ∧
      decode [(start 0xFFFF [0x0E, 0x9C] []).mem.read 0xFFFF, (start 0xFFFF [0x0E, 0x9C] []).mem.read (0xFFFF + 1),
        (start 0xFFFF [0x0E, 0x9C] []).mem.read (0xFFFF + 2)] = .ok (.mviC 0x9C) [0x00] := by
  decide

/-- HaltedStepIdles: an unfaulted halted state, its step, a halted state that takes interrupts, an accepted launch. -/
theorem test_witness_halted :
    (sampleHalted.faulted = none ∧ sampleHalted.halted = true) ∧ (∃ t, step sampleHalted = .next t) ∧
      (({ sampleHalted with inte := true } : State).inte = true ∧ ({ sampleHalted with inte := true } : State).halted = true) ∧
      ∃ t, launch (sampleLaunch [0x00, 0x76]) = .next t :=
  ⟨⟨rfl, rfl⟩, ⟨_, rfl⟩, ⟨rfl, rfl⟩, ⟨_, rfl⟩⟩

/-- DecodeFaultIsFinal, OnlyAFaultedSessionStops: a faulted session and one that is not. -/
theorem test_witness_faulted_session :
    sampleFaulted.faulted = some ⟨0x08, 0x0100⟩ ∧ State.reset.faulted = none := by
  decide

/-- ResetMeetsInvariants, StepAndHostCallsKeepInvariant: a step and a sequence of host calls that give next states, from a state
with the invariant. -/
theorem test_witness_invariant :
    State.reset.Inv ∧ (∃ t, step State.reset = .next t) ∧
      ∃ t, runCalls [.writeMem 0xFFFF 0x08, .writePc 0xFFFF, .step, .raiseInterrupt] State.reset = .next t ∧
        t.faulted = some ⟨0x08, 0xFFFF⟩ := by
  refine ⟨⟨rfl, fun f h => ?_⟩, ⟨_, rfl⟩, ⟨_, rfl, rfl⟩⟩
  cases h

/-- DecodeFaultsArePrecise: a faulted state that meets the premise, and a step that takes the fault. -/
theorem test_witness_precise_fault :
    sampleFaulted.PreciseFault ∧ (start 0x0100 [0x08] []).PreciseFault ∧ step (start 0x0100 [0x08] []) = .next sampleFaulted := by
  refine ⟨fun f h => ?_, fun f h => ?_, rfl⟩ <;> cases h
  exact ⟨rfl, rfl, rfl⟩

/-- DecodeFaultExactlyOnUndefinedOpcodes, each clause: an undefined opcode under `fault`, one under `nop`, a defined opcode. -/
theorem test_witness_decode_fault :
    (∃ t, step (start 0x0100 [0xFD] []) = .next t ∧ t.faulted = some ⟨0xFD, 0x0100⟩) ∧
      (∃ t, step { start 0x0100 [0xFD] [] with params := { Params.reset with undefPolicy := .nop } } = .next t ∧
        t.faulted = none) ∧
      ∃ t, step (start 0x0100 [0xFE, 0x40] []) = .next t ∧ t.faulted = none :=
  ⟨⟨_, rfl, rfl⟩, ⟨_, rfl, rfl⟩, ⟨_, rfl, rfl⟩⟩

/-- ResetGivesStatedValues: the longest image that is accepted. -/
theorem test_witness_longest_image : (sampleLaunch (List.replicate 65536 0xFF)).WellFormed := by
  simp only [Launch.WellFormed, sampleLaunch, List.length_replicate, le_refl]

/-- ResetGivesStatedValues: an accepted launch, an address of the image (wrapped), one outside it, and a refused launch. -/
theorem test_witness_image :
    (∃ t, launch (sampleLaunch [0x00, 0x76]) = .next t ∧ t.mem.read 0x0000 = 0x76 ∧ t.mem.read 0x1234 = 0x77) ∧
      1 < (sampleLaunch [0x00, 0x76]).image.length ∧
      (∀ k < (sampleLaunch [0x00, 0x76]).image.length, (0x1234 : Word) ≠ 0xFFFF + BitVec.ofNat 16 k) ∧
      ∀ x : Launch, 65536 < ({ x with image := List.replicate 65537 0xFF } : Launch).image.length := by
  refine ⟨⟨_, rfl, by decide, by decide⟩, by decide, by decide, fun x => ?_⟩
  simp only [List.length_replicate]
  decide

/-- WordAccessIsLittleEndianAndWraps: an address outside the two bytes of an access at 0xFFFF, and the bytes of that access. -/
theorem test_witness_word_access :
    ((0x0001 : Word) ≠ 0xFFFF ∧ (0x0001 : Word) ≠ 0xFFFF + 1) ∧
      (Memory.write16 [] 0xFFFF 0xABCD).read 0xFFFF = 0xCD ∧ (Memory.write16 [] 0xFFFF 0xABCD).read 0x0000 = 0xAB := by
  decide

/-- EqualContentsAreEqualMemories: two memories written in different orders, and a byte written and cleared again. -/
theorem test_witness_equal_memories :
    Memory.wf (stored [] [(0x0002, 0x05), (0xFFFF, 0x06)]) = true ∧
      Memory.wf (stored [] [(0xFFFF, 0x06), (0x0000, 0x01), (0x0002, 0x05), (0x0000, 0x00)]) = true ∧
      ∀ a : Word, Memory.read (stored [] [(0x0002, 0x05), (0xFFFF, 0x06)]) a =
        Memory.read (stored [] [(0xFFFF, 0x06), (0x0000, 0x01), (0x0002, 0x05), (0x0000, 0x00)]) a :=
  ⟨by decide, by decide, fun _ => rfl⟩

/-- PairsAreViewsOfRegisters, HostWritesOneElement: pairs and registers that differ. -/
theorem test_witness_other_pair : Rp.sp ≠ Rp.hl ∧ Reg.b ≠ Reg.a ∧ FlagName.cy ≠ FlagName.ac ∧ (0x0000 : Word) ≠ 0xFFFF := by
  decide

/-- The statements over a table of registers: the first and the last row of each table is in it. -/
theorem test_witness_register_rows :
    (0x40, Instr.movBB, Reg.b, Reg.b) ∈ movRows ∧ (0x7F, Instr.movAA, Reg.a, Reg.a) ∈ movRows ∧
      (0x46, Instr.movBM, Reg.b) ∈ movFromMRows ∧ (0x7E, Instr.movAM, Reg.a) ∈ movFromMRows ∧
      (0x70, Instr.movMB, Reg.b) ∈ movToMRows ∧ (0x77, Instr.movMA, Reg.a) ∈ movToMRows ∧
      (0x80, Instr.addB, Reg.b) ∈ addRows ∧ (0x87, Instr.addA, Reg.a) ∈ addRows ∧
      (0x88, Instr.adcB, Reg.b) ∈ adcRows ∧ (0x8F, Instr.adcA, Reg.a) ∈ adcRows ∧
      (0x90, Instr.subB, Reg.b) ∈ subRows ∧ (0x97, Instr.subA, Reg.a) ∈ subRows ∧
      (0x98, Instr.sbbB, Reg.b) ∈ sbbRows ∧ (0x9F, Instr.sbbA, Reg.a) ∈ sbbRows ∧
      (0xA0, Instr.anaB, Reg.b) ∈ anaRows ∧ (0xA7, Instr.anaA, Reg.a) ∈ anaRows ∧
      (0xA8, Instr.xraB, Reg.b) ∈ xraRows ∧ (0xAF, Instr.xraA, Reg.a) ∈ xraRows ∧
      (0xB0, Instr.oraB, Reg.b) ∈ oraRows ∧ (0xB7, Instr.oraA, Reg.a) ∈ oraRows ∧
      (0xB8, Instr.cmpB, Reg.b) ∈ cmpRows ∧ (0xBF, Instr.cmpA, Reg.a) ∈ cmpRows ∧
      (0x04, Instr.inrB, Reg.b) ∈ inrRows ∧ (0x3C, Instr.inrA, Reg.a) ∈ inrRows ∧
      (0x05, Instr.dcrB, Reg.b) ∈ dcrRows ∧ (0x3D, Instr.dcrA, Reg.a) ∈ dcrRows := by
  and_intros <;> decide

/-- The statements over a table of pairs, and RST: the first and the last row. -/
theorem test_witness_pair_rows :
    (0x03, Instr.inxB, Rp.bc) ∈ inxRows ∧ (0x33, Instr.inxSP, Rp.sp) ∈ inxRows ∧
      (0x0B, Instr.dcxB, Rp.bc) ∈ dcxRows ∧ (0x3B, Instr.dcxSP, Rp.sp) ∈ dcxRows ∧
      (0x09, Instr.dadB, Rp.bc) ∈ dadRows ∧ (0x39, Instr.dadSP, Rp.sp) ∈ dadRows ∧
      (0xC5, Instr.pushB, Rp.bc) ∈ pushRows ∧ (0xE5, Instr.pushH, Rp.hl) ∈ pushRows ∧
      (0xC1, Instr.popB, Rp.bc) ∈ popRows ∧ (0xE1, Instr.popH, Rp.hl) ∈ popRows ∧
      (0xC7, Instr.rst0, 0x0000) ∈ rstRows ∧ (0xFF, Instr.rst7, 0x0038) ∈ rstRows := by
  and_intros <;> decide

/-- The statements over a table whose rows hold functions: the first row of each. -/
theorem test_witness_function_rows :
    (0x06, Instr.mviB, Reg.b) ∈ mviRows ∧ (0xC2, Instr.jnz, fun f : Flags => !f.z) ∈ jccRows ∧
      (0xC4, Instr.cnz, fun f : Flags => !f.z) ∈ cccRows ∧ (0xC0, Instr.rnz, fun f : Flags => !f.z) ∈ rccRows ∧
      ((0x08, fun _ => Instr.undef08, fun _ => Instr.nop) : Byte × (Word → Instr) × (Word → Instr)) ∈ undefinedRows :=
  ⟨.head _, .head _, .head _, .head _, .head _⟩

/-- The cases of a conditional instruction: a state in which each condition holds, and one in which it does not. -/
theorem test_witness_conditions :
    (jccRows.all fun row => row.2.2 { z := false, s := false, p := false, cy := false, ac := false } !=
      row.2.2 { z := true, s := true, p := true, cy := true, ac := false }) = true := by
  decide

/-- PushThenPopRestores, each clause, with sp at 0x0000. -/
theorem test_witness_push_pop :
    (∃ t u, exec .pushB State.reset = .next t ∧ exec .popB t = .next u ∧ t.sp = 0xFFFE) ∧
      (∃ t u, exec .pushD State.reset = .next t ∧ exec .popD t = .next u) ∧
      (∃ t u, exec .pushH State.reset = .next t ∧ exec .popH t = .next u) ∧
      ∃ t u, exec .pushPSW State.reset = .next t ∧ exec .popPSW t = .next u :=
  ⟨⟨_, _, rfl, rfl, rfl⟩, ⟨_, _, rfl, rfl⟩, ⟨_, _, rfl, rfl⟩, ⟨_, _, rfl, rfl⟩⟩

/-- TwoStackTopExchangesRestore, with sp at 0xFFFF. -/
theorem test_witness_two_exchanges :
    Memory.wf (start 0x0100 [0xE3] [(0xFFFF, 0xF0), (0x0000, 0x0D)]).mem = true ∧
      ∃ t u, exec .xthl { start 0x0100 [0xE3] [(0xFFFF, 0xF0), (0x0000, 0x0D)] with sp := 0xFFFF } = .next t ∧
        exec .xthl t = .next u :=
  ⟨by decide, _, _, rfl, rfl⟩

/-- ControlInstructions: EI and HLT in a session without a fault, with interrupts enabled and disabled. -/
theorem test_witness_control_instructions :
    State.reset.faulted = none ∧ State.reset.inte = false ∧ (∃ t, exec .ei State.reset = .next t) ∧
      (∃ t, exec .hlt State.reset = .next t) ∧ ({ State.reset with inte := true } : State).faulted = none ∧
      ∃ t, exec .hlt { State.reset with inte := true } = .next t :=
  ⟨rfl, rfl, ⟨_, rfl⟩, ⟨_, rfl⟩, rfl, _, rfl⟩

/-- PortInputAndOutput: a state with an answer left, and one without. -/
theorem test_witness_port_answers :
    ({ State.reset with portAnswers := [0x08] } : State).portAnswers = 0x08 :: [] ∧ State.reset.portAnswers = [] := by
  decide

/-- UndefinedOpcodesFollowThePolicy: each policy. -/
theorem test_witness_policies :
    State.reset.params.undefPolicy = .fault ∧
      ({ State.reset with params := { Params.reset with undefPolicy := .nop } } : State).params.undefPolicy = .nop ∧
      ({ State.reset with params := { Params.reset with undefPolicy := .aliased } } : State).params.undefPolicy = .aliased := by
  decide

/-- InterruptRequest, each clause: enabled, disabled, faulted, right after EI. -/
theorem test_witness_interrupt :
    (({ State.reset with inte := true } : State).faulted = none ∧ ({ State.reset with inte := true } : State).inte = true) ∧
      State.reset.inte = false ∧ sampleFaulted.faulted ≠ none ∧ ∃ t, exec .ei State.reset = .next t :=
  ⟨⟨rfl, rfl⟩, rfl, by decide, _, rfl⟩

/-- HandlerReturnsWithRet: a handler that has changed A and enabled interrupts again, with sp at 0x0001. -/
theorem test_witness_handler :
    ∃ s h : State, s.faulted = none ∧ s.inte = true ∧ h.sp = s.raiseInterrupt.sp ∧
      h.mem.read h.sp = s.raiseInterrupt.mem.read h.sp ∧ h.mem.read (h.sp + 1) = s.raiseInterrupt.mem.read (h.sp + 1) ∧
      h.a ≠ s.a ∧ h.inte = true :=
  ⟨{ start 0x1234 [] [] with sp := 0x0001, inte := true },
    { State.raiseInterrupt { start 0x1234 [] [] with sp := 0x0001, inte := true } with a := 0x08, inte := true },
    rfl, rfl, rfl, rfl, rfl, by decide, rfl⟩

/-- FlagsChangeOnlyAsListed, each clause: all flags, all but CY, CY only, none. -/
theorem test_witness_flag_clauses :
    (∃ t, exec (decodeOp 0xFE 0x40 0x00) State.reset = .next t ∧ t.flags.cy = true) ∧
      (∃ t, exec (decodeOp 0x3D 0x00 0x00) State.reset = .next t ∧ t.flags.s = true ∧ t.flags.cy = false) ∧
      (∃ t, exec (decodeOp 0x37 0x00 0x00) State.reset = .next t ∧ t.flags.cy = true) ∧
      ∃ t, exec (decodeOp 0x2F 0x00 0x00) State.reset = .next t ∧ t.flags = State.reset.flags :=
  ⟨⟨_, rfl, rfl⟩, ⟨_, rfl, rfl, rfl⟩, ⟨_, rfl, rfl⟩, ⟨_, rfl, rfl⟩⟩

/-- ControlStateChangesOnlyAsListed, each clause: EI, DI, HLT, IN, OUT, and another opcode. -/
theorem test_witness_control_clauses :
    (∃ t, exec (decodeOp 0xFB 0x00 0x00) State.reset = .next t ∧ t.inte = true) ∧
      (∃ t, exec (decodeOp 0xF3 0x00 0x00) { State.reset with inte := true } = .next t ∧ t.inte = false) ∧
      (∃ t, exec (decodeOp 0x76 0x00 0x00) State.reset = .next t ∧ t.halted = true) ∧
      (∃ t, exec (decodeOp 0xDB 0xFF 0x00) { State.reset with portAnswers := [0x08] } = .next t ∧
        t.portCalls = [.input 0xFF 0x08]) ∧
      (∃ t, exec (decodeOp 0xD3 0x00 0x00) State.reset = .next t ∧ t.portCalls = [.output 0x00 0x00]) ∧
      ∃ t, exec (decodeOp 0x00 0x00 0x00) State.reset = .next t ∧ t.portCalls = [] :=
  ⟨⟨_, rfl, rfl⟩, ⟨_, rfl, rfl⟩, ⟨_, rfl, rfl⟩, ⟨_, rfl, rfl⟩, ⟨_, rfl, rfl⟩, ⟨_, rfl, rfl⟩⟩

/-- MemoryChangesOnlyWhereStored: an address outside the bytes stored, for one and for two bytes at the top of memory, for a call
that is not taken, and for an opcode that stores nothing. -/
theorem test_witness_stored_addresses :
    (0x0001 : Word) ∉ storedAddresses 0x32 0xFF 0xFF State.reset ∧ (0x0001 : Word) ∉ storedAddresses 0x22 0xFF 0xFF State.reset ∧
      (0x0000 : Word) ∉ storedAddresses 0xC5 0x00 0x00 State.reset ∧ (0xFFFF : Word) ∉ storedAddresses 0xCC 0x00 0x00 State.reset ∧
      (0x0000 : Word) ∉ storedAddresses 0x76 0x00 0x00 State.reset ∧ ∃ t, exec (decodeOp 0x22 0xFF 0xFF) State.reset = .next t :=
  ⟨by decide, by decide, by decide, by decide, by decide, _, rfl⟩

/-- QuiescentStatesDoNotChange: a normal end with its idle step, and a fault. -/
theorem test_witness_quiescent :
    sampleHalted.quiescent = true ∧ sampleHalted.normalEnd = true ∧ (∃ t, step sampleHalted = .next t) ∧
      sampleFaulted.quiescent = true ∧ sampleFaulted.normalEnd = false :=
  ⟨by decide, by decide, ⟨_, rfl⟩, by decide, by decide⟩

/-- ReturnValuesAreNeverReadBack: a step that returns a fault, and one that returns a cycle count. -/
theorem test_witness_return_values :
    (∃ t, step (start 0x0100 [0x08] []) = .next t ∧ t.lastReturn = .fault ⟨0x08, 0x0100⟩) ∧
      ∃ t, step (start 0x0100 [0xE3] []) = .next t ∧ t.lastReturn = .cycles 18 :=
  ⟨⟨_, rfl, rfl⟩, ⟨_, rfl, rfl⟩⟩

/-! ## The host's placing of an instruction -/

/-- `withFetchWord` puts 0x0E 0x9C (MVI C, numbered as the opcode table numbers bits) where the next step fetches. -/
theorem test_with_fetch_word :
    (sampleFaulted.withFetchWord 16 0x9C0E).fetch = .mviC 0x9C ∧ decodeTableWord 16 0x9C0E = some (.mviC 0x9C) ∧
      decodeTableWord 8 0x0E = some (.mviC 0x00) ∧ decodeTableWord 24 0x1234CD = some (.call 0x1234) := by
  decide

/-- It changes the two marks only as far as the fetch needs it, and the step that follows runs the instruction. -/
theorem test_with_fetch_word_runs :
    (match step (State.reset.withFetchWord 24 0x1234CD) with
      | .next t => decide (t.pc = 0x1234 ∧ t.sp = 0xFFFE)
      | _ => false) = true := by
  decide

end Sys2Proof.Tests
end

section
/-! Reset, the stack's pushes, register views, host accessors, and the frame of every instruction on the flags and on the
control state (10_state.md). -/

namespace Sys2Proof.Machine
open Sys2Proof.Claims

/-! ## The claims' words for the halves of a word are the model's -/

theorem lowOf_eq_loByte (v : Word) : lowOf v = loByte v := by
  apply BitVec.eq_of_toNat_eq; simp [lowOf, toNat_loByte]

theorem highOf_eq_hiByte (v : Word) : highOf v = hiByte v := by
  have := v.isLt
  apply BitVec.eq_of_toNat_eq; rw [highOf, toNat_hiByte, BitVec.toNat_ofNat]; omega

/-! ## Registers and pairs -/

/-- A pair or sp read back after a write of any of the four (10_state.md R22). -/
theorem getRp_setRp_eq (s : State) (p q : Rp) (v : Word) :
    (s.setRp p v).getRp q = if q = p then v else s.getRp q := by
  cases p <;> cases q <;> simp [State.setRp, State.getRp]

/-! ## The image load -/

theorem add_ofNat_succ (base : Word) (k : Nat) : base + BitVec.ofNat 16 (k + 1) = base + 1 + BitVec.ofNat 16 k := by
  rw [BitVec.ofNat_add]; ac_rfl

/-- Where the image load does not write (70_reset_and_hazards.md R291). -/
theorem read_loadImage_of_ne (image : List Byte) (m : Memory) (base a : Word)
    (h : ∀ k < image.length, a ≠ base + BitVec.ofNat 16 k) : (m.loadImage base image).read a = m.read a := by
  induction image generalizing m base with
  | nil => rfl
  | cons v rest ih =>
    have hbase : a ≠ base := by simpa using h 0 (by simp)
    rw [Memory.loadImage, ih, read_write_ne m v hbase]
    intro k hk e
    exact h (k + 1) (by simpa using hk) (by rw [e, add_ofNat_succ])

/-- Byte `k` of an image that does not overlap itself is at `base + k`, wrapped (70_reset_and_hazards.md R291). -/
theorem read_loadImage_getElem (image : List Byte) (m : Memory) (base : Word) (hlen : image.length ≤ 65536) (k : Nat)
    (hk : k < image.length) : (m.loadImage base image).read (base + BitVec.ofNat 16 k) = image[k] := by
  induction image generalizing m base k with
  | nil => simp at hk
  | cons v rest ih =>
    rw [List.length_cons] at hlen hk
    rw [Memory.loadImage]
    cases k with
    | zero =>
      -- the later bytes go to other addresses, since there are fewer than 65536 of them
      rw [read_loadImage_of_ne]
      · simp
      · intro j hj e
        bv_omega
    | succ k =>
      rw [add_ofNat_succ]
      exact ih (m.write base v) (base + 1) (by omega) k (by omega)

/-! ## Pushes -/

/-- The two addresses of a push are neighbours. -/
theorem sub_two_add_one (a : Word) : a - 2 + 1 = a - 1 := by bv_omega

/-- `push16` stores its word at sp - 2 (44_stack.md R220). -/
theorem storesWord_push16 (s : State) (v : Word) : StoresWord s (s.push16 v) (s.sp - 2) v := by
  have hne : s.sp - 1 ≠ s.sp - 2 := by bv_omega
  refine ⟨?_, ?_, fun x hlo hhi => ?_⟩
  · rw [push16_read, if_pos rfl, lowOf_eq_loByte]
  · rw [sub_two_add_one, push16_read, if_neg hne, if_pos rfl, highOf_eq_hiByte]
  · rw [push16_read, if_neg hlo, if_neg (sub_two_add_one s.sp ▸ hhi)]

/-- An instruction that pushes the word `v`, which the pc is no part of (44_stack.md R222, R223). -/
theorem completes_push {i : Instr} {v : State → Word} (hv : ∀ s : State, v (s.advance 1) = v s)
    (hi : ∀ s, exec i s = complete 1 11 (fun s => s.push16 (v s)) s) (s : State) :
    Completes i s 1 11 fun t => StoresWord s t (s.sp - 2) (v s) ∧ t.sp = s.sp - 2 ∧ OnlyMemory { s with sp := t.sp } t :=
  ⟨_, hi s, rfl, rfl, hv s ▸ storesWord_push16 (s.advance 1) (v (s.advance 1)), rfl, rfl⟩

/-- The flag byte as a number: `S Z 0 AC 0 P 1 CY` (10_state.md R27). -/
theorem toNat_flagByte (f : Flags) :
    f.byte.toNat = f.s.toNat * 128 + f.z.toNat * 64 + f.ac.toNat * 16 + f.p.toNat * 4 + 2 + f.cy.toNat := by
  obtain ⟨z, s, p, cy, ac⟩ := f
  revert z s p cy ac; decide

theorem flagByte_reset : Flags.reset.byte = 0x02 := by decide

/-! ## States without a fault mark -/

theorem inv_of_not_faulted {s : State} (hmem : s.mem.wf = true) (hf : s.faulted = none) : s.Inv :=
  ⟨hmem, fun f h => by simp [hf] at h⟩

theorem preciseFault_of_not_faulted {s : State} (hf : s.faulted = none) : s.PreciseFault :=
  fun f h => by simp [hf] at h

/-! ## The opcode byte of an instruction -/

/-- The first byte of the encoding. -/
def opcodeOf (i : Instr) : Byte := (encode i).headD 0x00

/-- The opcode byte of the decoded instruction is the byte it was decoded from (30_encoding.md R84). -/
theorem opcodeOf_decodeOp (op b1 b2 : Byte) : opcodeOf (decodeOp op b1 b2) = op := by
  obtain ⟨n, hn, rfl⟩ : ∃ n < 256, op = BitVec.ofNat 8 n := ⟨op.toNat, op.isLt, by simp⟩
  interval_cases n <;> rfl

/-! ## What an instruction keeps -/

/-- A view of the state in which neither the advance of the pc, nor the return value, nor a decode fault shows. -/
structure Blind {α : Type} (view : State → α) : Prop where
  advance : ∀ (s : State) (len : Word), view (s.advance len) = view s
  returns : ∀ (s : State) (r : StepReturn), view (s.returns r) = view s
  raiseDecodeFault : ∀ (s : State) (op : Byte) (x : Word), view (s.raiseDecodeFault op x) = view s

namespace Blind
variable {α : Type} {view : State → α} (k : Blind view)
include k

/-- A completed instruction is seen as its effect is. -/
theorem complete {len : Word} {n : Nat} {f : State → State} {s t : State} (h : complete len n f s = .next t)
    (hf : ∀ s, view (f s) = view s) : view t = view s := by
  rw [(complete_eq_next len n f s t).mp h, k.returns, hf, k.advance]

/-- So is a conditional one. -/
theorem completeIf {taken : Bool} {len : Word} {n m : Nat} {f : State → State} {s t : State}
    (h : completeIf taken len n m f s = .next t) (hf : ∀ s, view (f s) = view s) : view t = view s := by
  cases taken
  · exact k.complete h fun _ => rfl
  · exact k.complete h hf

/-- An undefined opcode shows at most what the instruction the silicon runs for it shows. -/
theorem undefinedOpcode {op : Byte} {g : State → Host.Outcome State Fault Refusal} {s t : State}
    (h : undefinedOpcode op g s = .next t) (hg : g s = .next t → view t = view s) : view t = view s := by
  cases hp : s.params.undefPolicy with
  | fault =>
    rw [undefinedOpcode_fault hp, Host.Outcome.next.injEq] at h
    exact h ▸ k.raiseDecodeFault s op s.pc
  | nop =>
    rw [undefinedOpcode_nop hp, Host.Outcome.next.injEq] at h
    exact h ▸ (k.returns _ _).trans (k.advance s 1)
  | aliased => exact hg ((undefinedOpcode_aliased hp).symm.trans h)

end Blind

/-! ## Flags -/

theorem blind_flags : Blind State.flags := ⟨fun _ _ => rfl, fun _ _ => rfl, fun _ _ _ => rfl⟩

@[simp] theorem inr_cy (f : Flags) (v : Byte) : (f.inr v).cy = f.cy := rfl

@[simp] theorem dcr_cy (f : Flags) (v : Byte) : (f.dcr v).cy = f.cy := rfl

/-- CY alone. -/
def State.carry (s : State) : Bool := s.flags.cy

theorem blind_carry : Blind State.carry := ⟨fun _ _ => rfl, fun _ _ => rfl, fun _ _ _ => rfl⟩

/-- The four flags that are not CY. -/
def State.otherFlags (s : State) : Flags := { s.flags with cy := false }

theorem blind_otherFlags : Blind State.otherFlags := ⟨fun _ _ => rfl, fun _ _ => rfl, fun _ _ _ => rfl⟩

theorem flags_eq_of_otherFlags {s t : State} (h : t.otherFlags = s.otherFlags) :
    t.flags = { s.flags with cy := t.flags.cy } :=
  congrArg (fun f : Flags => { f with cy := t.flags.cy }) h

/-- The table allows every opcode to keep all flags. -/
theorem flagFrame_of_eq {op : Byte} {f g : Flags} (h : g = f) : FlagFrame op f g := by
  subst h
  unfold FlagFrame
  split
  · trivial
  · split
    · rfl
    · split <;> rfl

/-- The opcodes 10alusss, ADD to CMP, may write any flag (41_arithmetic.md R132; 42_logical.md R170, R180). -/
theorem flagFrame_opAlu (alu sss : BitVec 3) (f g : Flags) : FlagFrame (opAlu alu sss) f g := by
  have hop : (opAlu alu sss).toNat / 64 = 2 := by revert alu sss; decide
  rw [FlagFrame, if_pos (.inl hop)]
  trivial

/-- So may their immediate forms. -/
theorem flagFrame_opAluImm (alu : BitVec 3) (f g : Flags) : FlagFrame (opAluImm alu) f g := by
  have hop : (opAluImm alu).toNat / 64 = 3 ∧ (opAluImm alu).toNat % 8 = 6 := by revert alu; decide
  rw [FlagFrame, if_pos (.inr (.inl hop))]
  trivial

/-- Every instruction changes only the flags that the table lists for its opcode byte (10_state.md R29, R30). Where the table
says anything but "no flag", its row for the opcode byte is found by computing. `exec` is opened first, so that `complete` is
the head of both sides when `h` is matched with the lemmas about views. -/
theorem exec_flagFrame (i : Instr) {s t : State} (h : exec i s = .next t) :
    FlagFrame (opcodeOf i) s.flags t.flags := by
  cases i <;> dsimp only [exec] at h
  case addB | addC | addD | addE | addH | addL | addM | addA | adcB | adcC | adcD | adcE | adcH | adcL | adcM | adcA |
      subB | subC | subD | subE | subH | subL | subM | subA | sbbB | sbbC | sbbD | sbbE | sbbH | sbbL | sbbM | sbbA |
      anaB | anaC | anaD | anaE | anaH | anaL | anaM | anaA | xraB | xraC | xraD | xraE | xraH | xraL | xraM | xraA |
      oraB | oraC | oraD | oraE | oraH | oraL | oraM | oraA | cmpB | cmpC | cmpD | cmpE | cmpH | cmpL | cmpM | cmpA =>
    exact flagFrame_opAlu _ _ _ _
  case adi | aci | sui | sbi | ani | xri | ori | cpi =>
    exact flagFrame_opAluImm _ _ _
  case daa | popPSW =>
    exact True.intro
  case inrB | inrC | inrD | inrE | inrH | inrL | inrM | inrA | dcrB | dcrC | dcrD | dcrE | dcrH | dcrL | dcrM | dcrA =>
    exact blind_carry.complete h fun _ => by simp [State.carry]
  case dadB | dadD | dadH | dadSP | stc | cmc =>
    exact flags_eq_of_otherFlags (blind_otherFlags.complete h fun _ => by simp [State.otherFlags])
  case rlc | rrc | ral | rar =>
    exact flags_eq_of_otherFlags (blind_otherFlags.complete h fun _ => rfl)
  case jnz | jz | jnc | jc | jpo | jpe | jp | jm | cnz | cz | cnc | cc | cpo | cpe | cp | cm |
      rnz | rz | rnc | rc | rpo | rpe | rp | rm =>
    exact flagFrame_of_eq (blind_flags.completeIf h fun _ => by simp)
  case undef08 | undef10 | undef18 | undef20 | undef28 | undef30 | undef38 | undefCB | undefD9 | undefDD | undefED |
      undefFD =>
    exact flagFrame_of_eq (blind_flags.undefinedOpcode h fun h => blind_flags.complete h fun _ => by simp)
  all_goals exact flagFrame_of_eq (blind_flags.complete h fun _ => by simp)

/-! ## Control state -/

/-- INTE, `halted`, the parameters, and both sides of the I/O Port Interface. -/
def State.control (s : State) : Bool × Bool × Params × List PortCall × List Byte :=
  (s.inte, s.halted, s.params, s.portCalls, s.portAnswers)

theorem blind_control : Blind State.control := ⟨fun _ _ => rfl, fun _ _ => rfl, fun _ _ _ => rfl⟩

/-- EI, DI, HLT, IN and OUT. -/
def controlOpcodes : List Byte := [0xFB, 0xF3, 0x76, 0xDB, 0xD3]

/-- Every other instruction keeps the control state (10_state.md R32, R33; 45_io_control.md R247). -/
theorem exec_keeps_control {i : Instr} {s t : State} (hi : opcodeOf i ∉ controlOpcodes) (h : exec i s = .next t) :
    t.control = s.control := by
  cases i <;> dsimp only [exec] at h
  case ei | di | hlt => exact absurd (by decide) hi
  case inPort => exact absurd (show 0xDB ∈ controlOpcodes by decide) hi
  case outPort => exact absurd (show 0xD3 ∈ controlOpcodes by decide) hi
  case jnz | jz | jnc | jc | jpo | jpe | jp | jm | cnz | cz | cnc | cc | cpo | cpe | cp | cm |
      rnz | rz | rnc | rc | rpo | rpe | rp | rm =>
    exact blind_control.completeIf h fun _ => by simp [State.control]
  case undef08 | undef10 | undef18 | undef20 | undef28 | undef30 | undef38 | undefCB | undefD9 | undefDD | undefED |
      undefFD =>
    exact blind_control.undefinedOpcode h fun h => blind_control.complete h fun _ => by simp [State.control]
  all_goals exact blind_control.complete h fun _ => by simp [State.control]

/-! ## The obligations -/

/-- Settles O13: the fields are those of `State.ofLaunch`, and memory is the image loaded over the launch's contents. -/
theorem resetGivesStatedValues : Obligations.ResetGivesStatedValues := by
  unfold Obligations.ResetGivesStatedValues
  refine ⟨fun x hx => ⟨State.ofLaunch x, if_pos hx, ?_, rfl, flagByte_reset, rfl, rfl, rfl, rfl, rfl, ?_, ?_, rfl, rfl⟩,
    fun x hx => if_neg (Nat.not_le.mpr hx)⟩
  · intro r
    cases r <;> rfl
  · exact read_loadImage_getElem x.image _ x.imageBase hx
  · intro a ha
    exact (read_loadImage_of_ne x.image _ x.imageBase a ha).trans (read_canonical x.initMem a)

/-- Settles O42: each of the four is a push of its word, and PSW's halves are A and the flag byte. -/
theorem pushPairsAndPsw : Obligations.PushPairsAndPsw := by
  unfold Obligations.PushPairsAndPsw
  refine ⟨fun op i p hrow => ?_, fun _ _ => rfl, fun s => ?_⟩
  · simp only [pushRows, List.mem_cons, Prod.mk.injEq, List.not_mem_nil, or_false] at hrow
    obtain ⟨rfl, rfl, rfl⟩ | ⟨rfl, rfl, rfl⟩ | ⟨rfl, rfl, rfl⟩ := hrow
    all_goals exact ⟨fun _ _ => rfl, completes_push (fun _ => rfl) fun _ => rfl⟩
  · obtain ⟨t, hexec, hpc, hret, ⟨hlow, hhigh, hrest⟩, hsp, honly⟩ :=
      completes_push (i := .pushPSW) (v := State.psw) (fun _ => rfl) (fun _ => rfl) s
    rw [sub_two_add_one, highOf_eq_hiByte, State.psw, hiByte_joinBytes] at hhigh
    rw [lowOf_eq_loByte, State.psw, loByte_joinBytes] at hlow
    rw [sub_two_add_one] at hrest
    exact ⟨t, hexec, hpc, hret, hhigh, hlow ▸ toNat_flagByte s.flags, fun x h1 h2 => hrest x h2 h1, hsp, honly⟩

/-- Settles O52, by cases on the decoded instruction. -/
theorem flagsChangeOnlyAsListed : Obligations.FlagsChangeOnlyAsListed := by
  unfold Obligations.FlagsChangeOnlyAsListed
  intro op b1 b2 s t h
  simpa only [opcodeOf_decodeOp] using exec_flagFrame (decodeOp op b1 b2) h

/-- Settles O53: the five opcodes that write control state one by one, every other by what it keeps. -/
theorem controlStateChangesOnlyAsListed : Obligations.ControlStateChangesOnlyAsListed := by
  unfold Obligations.ControlStateChangesOnlyAsListed
  intro op b1 b2 s t h
  by_cases hop : op ∈ controlOpcodes
  · simp only [controlOpcodes, List.mem_cons, List.not_mem_nil, or_false] at hop
    obtain rfl | rfl | rfl | rfl | rfl := hop
    all_goals
      obtain rfl := Host.Outcome.next.inj h
      simp [State.setReg]
  · have hkept : t.control = s.control := exec_keeps_control (by rwa [opcodeOf_decodeOp]) h
    simp only [State.control, Prod.mk.injEq] at hkept
    obtain ⟨hinte, hhalted, hparams, hcalls, hanswers⟩ := hkept
    simp only [controlOpcodes, List.mem_cons, List.not_mem_nil, or_false, not_or] at hop
    obtain ⟨hei, hdi, hhlt, hin, hout⟩ := hop
    rw [if_neg hei, if_neg hdi, if_neg hhlt, if_neg hin, if_neg hout]
    exact ⟨hinte, hhalted, hparams, hcalls, fun _ => hanswers⟩

/-- Settles O10: memory is canonical and there is no fault mark. -/
theorem resetMeetsInvariants : Obligations.ResetMeetsInvariants := by
  unfold Obligations.ResetMeetsInvariants
  refine ⟨inv_of_not_faulted reset_mem_wf rfl, preciseFault_of_not_faulted rfl, fun x t h => ?_⟩
  obtain ⟨rfl, -⟩ := launch_eq_next h
  exact ⟨inv_of_not_faulted (wf_loadImage _ _ (wf_canonical _)) rfl, preciseFault_of_not_faulted rfl⟩

/-- Settles O16: pairs are joined bytes, and the claims' halves of a word are the bytes that a pair write stores. -/
theorem pairsAreViewsOfRegisters : Obligations.PairsAreViewsOfRegisters := by
  unfold Obligations.PairsAreViewsOfRegisters
  refine ⟨fun s => ⟨toNat_joinBytes _ _, toNat_joinBytes _ _, toNat_joinBytes _ _, rfl⟩, fun s v => ?_, getRp_setRp_eq,
    getReg_setReg⟩
  rw [highOf_eq_hiByte, lowOf_eq_loByte]
  exact ⟨rfl, rfl, rfl, rfl⟩

/-- Settles O17: each accessor answers its one update. -/
theorem hostWritesOneElement : Obligations.HostWritesOneElement := by
  unfold Obligations.HostWritesOneElement
  refine ⟨fun r v s => ⟨_, rfl, fun q => getReg_setReg s r q v, ?_⟩,
    fun p v s => ⟨_, rfl, getRp_setRp s p v, fun q hq => by rw [getRp_setRp_eq, if_neg hq], ?_⟩,
    fun n x s => ⟨_, rfl, ?_⟩, fun _ _ => rfl,
    fun a v s => ⟨_, rfl, ⟨read_write_same s.mem a v, fun x hx => read_write_ne s.mem v hx⟩, rfl⟩⟩
  · cases r <;> rfl
  · cases p <;> rfl
  · cases n <;> rfl

end Sys2Proof.Machine
end

section
/-! Memory: 16-bit accesses, equality of canonical memories, and the frame of every instruction on memory (20_memory.md). -/

namespace Sys2Proof.Machine
open Sys2Proof.Claims

/-! ## 16-bit values and accesses -/

/-- The claims' 16-bit value of two bytes is the model's. -/
theorem pairValue_eq_joinBytes (hi lo : Byte) : pairValue hi lo = joinBytes hi lo := by
  have hhi := hi.isLt
  have hlo := lo.isLt
  apply BitVec.eq_of_toNat_eq
  rw [toNat_joinBytes, pairValue, BitVec.toNat_ofNat]
  omega

/-- Little-endian (20_memory.md R56). -/
theorem toNat_read16 (m : Memory) (a : Word) :
    (m.read16 a).toNat = (m.read a).toNat + 256 * (m.read (a + 1)).toNat := by
  rw [Memory.read16, toNat_joinBytes, Nat.add_comm, Nat.mul_comm]

/-- A 16-bit read after two byte writes, the low byte first (20_memory.md R57). -/
theorem read16_write_write (m : Memory) (a : Word) (lo hi : Byte) :
    ((m.write a lo).write (a + 1) hi).read16 a = joinBytes hi lo := by
  rw [Memory.read16, read_write_same, read_write_ne _ _ (succ_ne a).symm, read_write_same]

/-- `MemRead(a, 2)` after `MemWrite(a, 2, v)` is `v`. -/
@[simp] theorem read16_write16 (m : Memory) (a v : Word) : (m.write16 a v).read16 a = v := by
  rw [Memory.write16, read16_write_write, joinBytes_hiByte_loByte]

/-! ## Equality of canonical memories -/

theorem lookup_eq_unlistedByte {m : Memory} {k : Nat} (h : ∀ c ∈ m, k < c.1) : m.lookup k = unlistedByte := by
  induction m with
  | nil => rfl
  | cons cell rest ih =>
    obtain ⟨hcell, hrest⟩ := List.forall_mem_cons.mp h
    rw [Memory.lookup, if_neg hcell.ne', ih hrest]

/-- A canonical memory has other contents at its first address than a memory that lists only higher ones. -/
theorem lookup_head_ne {k : Nat} {v : Byte} {rest n : Memory} (hm : Memory.wf ((k, v) :: rest) = true)
    (hn : ∀ c ∈ n, k < c.1) : Memory.lookup ((k, v) :: rest) k ≠ n.lookup k := by
  obtain ⟨-, hv, -, -⟩ := (wf_cons k v rest).mp hm
  rwa [lookup_eq_unlistedByte hn, Memory.lookup, if_pos rfl]

theorem lt_of_mem_of_lt_head {k j : Nat} {w : Byte} {rest : Memory} (hn : Memory.wf ((j, w) :: rest) = true)
    (hkj : k < j) : ∀ c ∈ (j, w) :: rest, k < c.1 := by
  obtain ⟨-, -, hrest, -⟩ := (wf_cons j w rest).mp hn
  exact List.forall_mem_cons.mpr ⟨hkj, fun c hc => hkj.trans (hrest c hc)⟩

/-- Canonical memories with the same contents are the same list: the first cells have the same address, since the lower of two
different ones would be listed in one memory only. -/
theorem eq_of_lookup_eq {m n : Memory} (hm : m.wf = true) (hn : n.wf = true)
    (h : ∀ k < 65536, m.lookup k = n.lookup k) : m = n := by
  induction m generalizing n with
  | nil =>
    cases n with
    | nil => rfl
    | cons cell rest =>
      obtain ⟨hk, -, -, -⟩ := (wf_cons cell.1 cell.2 rest).mp hn
      exact absurd (h cell.1 hk).symm (lookup_head_ne hn (by simp))
  | cons cell mrest ih =>
    obtain ⟨k, v⟩ := cell
    obtain ⟨hk, -, hmlt, hmrest⟩ := (wf_cons k v mrest).mp hm
    cases n with
    | nil => exact absurd (h k hk) (lookup_head_ne hm (by simp))
    | cons cell nrest =>
      obtain ⟨j, w⟩ := cell
      obtain ⟨hj, -, hnlt, hnrest⟩ := (wf_cons j w nrest).mp hn
      rcases lt_trichotomy k j with hkj | rfl | hjk
      · exact absurd (h k hk) (lookup_head_ne hm (lt_of_mem_of_lt_head hn hkj))
      · have hvw : v = w := by simpa [Memory.lookup] using h k hk
        have hrest : ∀ q < 65536, Memory.lookup mrest q = Memory.lookup nrest q := fun q hq => by
          by_cases hkq : k = q
          · rw [← hkq, lookup_eq_unlistedByte hmlt, lookup_eq_unlistedByte hnlt]
          · simpa [Memory.lookup, hkq] using h q hq
        rw [hvw, ih hmrest hnrest hrest]
      · exact absurd (h j hj).symm (lookup_head_ne hn (lt_of_mem_of_lt_head hm hjk))

/-! ## Where an instruction stores -/

/-- The two bytes of a push (44_stack.md R220). -/
def State.pushAddresses (s : State) : List Word := [s.sp - 1, s.sp - 2]

/-- The addresses that an instruction stores to (20_memory.md R55), by its constructor. -/
def storeAddresses (i : Instr) (s : State) : List Word :=
  match i with
  | .movMB | .movMC | .movMD | .movME | .movMH | .movML | .movMA | .mviM _ | .inrM | .dcrM => [s.hl]
  | .sta a16 => [a16]
  | .shld a16 => [a16, a16 + 1]
  | .staxB => [s.getRp .bc]
  | .staxD => [s.getRp .de]
  | .pushB | .pushD | .pushH | .pushPSW | .call _ | .rst0 | .rst1 | .rst2 | .rst3 | .rst4 | .rst5 | .rst6 | .rst7 =>
    s.pushAddresses
  | .cnz _ => if s.flags.holds .nz then s.pushAddresses else []
  | .cz _ => if s.flags.holds .z then s.pushAddresses else []
  | .cnc _ => if s.flags.holds .nc then s.pushAddresses else []
  | .cc _ => if s.flags.holds .c then s.pushAddresses else []
  | .cpo _ => if s.flags.holds .po then s.pushAddresses else []
  | .cpe _ => if s.flags.holds .pe then s.pushAddresses else []
  | .cp _ => if s.flags.holds .p then s.pushAddresses else []
  | .cm _ => if s.flags.holds .m then s.pushAddresses else []
  | .undefDD _ | .undefED _ | .undefFD _ => if s.params.undefPolicy = .aliased then s.pushAddresses else []
  | .xthl => [s.sp, s.sp + 1]
  | _ => []

/-- They are those that the claims' table computes from the opcode byte and the operand bytes. -/
theorem storeAddresses_decodeOp (op b1 b2 : Byte) (s : State) :
    storeAddresses (decodeOp op b1 b2) s = storedAddresses op b1 b2 s := by
  simp only [storedAddresses, hlOf, pairValue_eq_joinBytes]
  obtain ⟨n, hn, rfl⟩ : ∃ n < 256, op = BitVec.ofNat 8 n := ⟨op.toNat, op.isLt, by simp⟩
  interval_cases n <;> rfl

/-! ## What an instruction leaves of memory -/

theorem blind_mem : Blind State.mem := ⟨fun _ _ => rfl, fun _ _ => rfl, fun _ _ _ => rfl⟩

/-- An undefined opcode that is not run as its alias does not write memory (45_io_control.md R246). -/
theorem undefinedOpcode_mem {op : Byte} {g : State → Host.Outcome State Fault Refusal} {s t : State}
    (hp : s.params.undefPolicy ≠ .aliased) (h : undefinedOpcode op g s = .next t) : t.mem = s.mem := by
  cases hq : s.params.undefPolicy with
  | fault => rw [undefinedOpcode_fault hq, Host.Outcome.next.injEq] at h; rw [← h, raiseDecodeFault_mem]
  | nop => rw [undefinedOpcode_nop hq, Host.Outcome.next.injEq] at h; rw [← h, returns_mem, advance_mem]
  | aliased => exact absurd hq hp

section
variable {len : Word} {n k : Nat} {f : State → State} {s t : State} {a b x : Word} {v w : Byte}

/-- A completed instruction that writes one byte. -/
theorem read_of_complete_write (h : complete len n f s = .next t) (hf : (f (s.advance len)).mem = s.mem.write a v)
    (hx : x ∉ [a]) : t.mem.read x = s.mem.read x := by
  rw [(complete_eq_next len n f s t).mp h, returns_mem, hf, read_write_ne _ _ (List.ne_of_not_mem_cons hx)]

/-- A completed instruction that writes two bytes. -/
theorem read_of_complete_write_write (h : complete len n f s = .next t)
    (hf : (f (s.advance len)).mem = (s.mem.write a v).write b w) (hx : x ∉ [a, b]) :
    t.mem.read x = s.mem.read x := by
  obtain ⟨hxa, hxb⟩ : x ≠ a ∧ x ≠ b := by simpa using hx
  rw [(complete_eq_next len n f s t).mp h, returns_mem, hf, read_write_ne _ _ hxb, read_write_ne _ _ hxa]

/-- A call, or another push, under a condition. -/
theorem read_of_completeIf_push {taken : Bool} (h : completeIf taken len n k f s = .next t)
    (hf : (f (s.advance len)).mem = (s.mem.write (s.sp - 1) v).write (s.sp - 2) w)
    (hx : x ∉ if taken then s.pushAddresses else []) : t.mem.read x = s.mem.read x := by
  cases taken with
  | false => rw [(complete_eq_next len k id s t).mp h, returns_mem, id, advance_mem]
  | true => exact read_of_complete_write_write h hf hx

/-- An undefined opcode whose alias pushes. -/
theorem read_of_undefinedOpcode_push {op : Byte} (h : undefinedOpcode op (complete len n f) s = .next t)
    (hf : (f (s.advance len)).mem = (s.mem.write (s.sp - 1) v).write (s.sp - 2) w)
    (hx : x ∉ if s.params.undefPolicy = .aliased then s.pushAddresses else []) : t.mem.read x = s.mem.read x := by
  by_cases hp : s.params.undefPolicy = .aliased
  · rw [undefinedOpcode_aliased hp] at h
    rw [if_pos hp] at hx
    exact read_of_complete_write_write h hf hx
  · rw [undefinedOpcode_mem hp h]

end

/-- Every instruction leaves the bytes at all other addresses as they were (20_memory.md R61). -/
theorem exec_read_of_not_stored (i : Instr) {s t : State} {x : Word} (h : exec i s = .next t)
    (hx : x ∉ storeAddresses i s) : t.mem.read x = s.mem.read x := by
  cases i <;> dsimp only [exec] at h
  case movMB | movMC | movMD | movME | movMH | movML | movMA | mviM | inrM | dcrM | sta | staxB | staxD =>
    exact read_of_complete_write h rfl hx
  case shld | xthl | pushB | pushD | pushH | pushPSW | call | rst0 | rst1 | rst2 | rst3 | rst4 | rst5 | rst6 | rst7 =>
    exact read_of_complete_write_write h rfl hx
  case cnz | cz | cnc | cc | cpo | cpe | cp | cm =>
    exact read_of_completeIf_push h rfl hx
  case undefDD | undefED | undefFD =>
    exact read_of_undefinedOpcode_push h rfl hx
  case jnz | jz | jnc | jc | jpo | jpe | jp | jm | rnz | rz | rnc | rc | rpo | rpe | rp | rm =>
    rw [blind_mem.completeIf h fun _ => rfl]
  case undef08 | undef10 | undef18 | undef20 | undef28 | undef30 | undef38 | undefCB | undefD9 =>
    rw [blind_mem.undefinedOpcode h fun h => blind_mem.complete h fun _ => rfl]
  all_goals rw [blind_mem.complete h fun _ => rfl]

/-! ## The obligations -/

/-- Settles O14: a 16-bit access is the two byte accesses of `read_write`, whose addresses differ. -/
theorem wordAccessIsLittleEndianAndWraps : Obligations.WordAccessIsLittleEndianAndWraps := by
  unfold Obligations.WordAccessIsLittleEndianAndWraps
  refine ⟨toNat_read16, fun m a v => ⟨read16_write16 m a v, ?_, ?_, fun x hlo hhi => ?_⟩, fun m a lo hi => ?_⟩
  · rw [write16_read, if_neg (succ_ne a).symm, if_pos rfl, lowOf_eq_loByte]
  · rw [write16_read, if_pos rfl, highOf_eq_hiByte]
  · rw [write16_read, if_neg hhi, if_neg hlo]
  · rw [read16_write_write, pairValue_eq_joinBytes]

/-- Settles O15: every number below 65536 is an address, so equal reads are equal lookups. -/
theorem equalContentsAreEqualMemories : Obligations.EqualContentsAreEqualMemories := by
  unfold Obligations.EqualContentsAreEqualMemories
  intro m n hm hn h
  refine eq_of_lookup_eq hm hn fun k hk => ?_
  simpa [Memory.read, Nat.mod_eq_of_lt hk] using h (BitVec.ofNat 16 k)

/-- Settles O54, by cases on the decoded instruction. -/
theorem memoryChangesOnlyWhereStored : Obligations.MemoryChangesOnlyWhereStored := by
  unfold Obligations.MemoryChangesOnlyWhereStored
  intro op b1 b2 s t h x hx
  rw [← storeAddresses_decodeOp] at hx
  exact exec_read_of_not_stored _ h hx

end Sys2Proof.Machine
end

section
/-! Encoding: the decoder and the encoder agree format by format (30_encoding.md R70), in both directions. And the step, by the
three things that it can be (R74, R88). -/

namespace Sys2Proof.Machine

/-! ## Operand bytes -/

/-- The operand word put together from its two bytes (30_encoding.md R78). -/
theorem immWord_loByte_hiByte (v : Word) : immWord (loByte v) (hiByte v) = v := joinBytes_hiByte_loByte v

theorem format3_eq (op : Byte) (d16 : Word) : format3 op d16 = [op, loByte d16, hiByte d16] := rfl

/-- The three bytes with an operand word that was put together from two bytes. -/
theorem format3_immWord (op lo hi : Byte) : format3 op (immWord lo hi) = [op, lo, hi] :=
  congrArg₂ (fun x y => [op, x, y]) (loByte_joinBytes hi lo) (hiByte_joinBytes hi lo)

/-! ## The decoder's answer -/

/-- When the decoder answers an instruction, and which. -/
theorem decode_cons_eq_ok {op : Byte} {bytes rest : List Byte} {i : Instr} :
    decode (op :: bytes) = .ok i rest ↔
      opLength op ≤ bytes.length + 1 ∧ decodeOp op (bytes.getD 0 0x00) (bytes.getD 1 0x00) = i ∧
        bytes.drop (opLength op - 1) = rest := by
  rw [decode]
  split
  · next hshort => simp [Nat.not_le.mpr hshort]
  · next hlong => simp [Nat.not_lt.mp hlong]

/-! ## The three formats -/

/-- `i` is the instruction of the opcode `op` in one of the three formats of 30_encoding.md R70 (no operand, a byte, a word):
the opcode's length, its encoding and its decoding are those of the format, the latter two for every operand. -/
inductive HasFormat (op : Byte) : Instr → Prop where
  | f1 {i : Instr} (hlen : opLength op = 1) (henc : encode i = [op]) (hdec : ∀ b1 b2, decodeOp op b1 b2 = i) :
    HasFormat op i
  | f2 {f : Byte → Instr} (hlen : opLength op = 2) (henc : ∀ d8, encode (f d8) = format2 op d8)
    (hdec : ∀ b1 b2, decodeOp op b1 b2 = f b1) (d8 : Byte) : HasFormat op (f d8)
  | f3 {f : Word → Instr} (hlen : opLength op = 3) (henc : ∀ d16, encode (f d16) = format3 op d16)
    (hdec : ∀ b1 b2, decodeOp op b1 b2 = f (immWord b1 b2)) (d16 : Word) : HasFormat op (f d16)

/-- Every instruction has a format: those with a byte and those with a word by name, all others without an operand. -/
theorem hasFormat (i : Instr) : HasFormat (opcodeOf i) i := by
  cases i <;> dsimp only [opcodeOf, encode, format2, format3, List.headD_cons]
  case mviB | mviC | mviD | mviE | mviH | mviL | mviA | mviM | adi | aci | sui | sbi | ani | xri | ori | cpi |
      inPort | outPort =>
    exact .f2 rfl (fun _ => rfl) (fun _ _ => rfl) _
  case lxiB | lxiD | lxiH | lxiSP | lda | sta | lhld | shld | jmp | jnz | jz | jnc | jc | jpo | jpe | jp | jm |
      call | cnz | cz | cnc | cc | cpo | cpe | cp | cm | undefCB | undefDD | undefED | undefFD =>
    exact .f3 rfl (fun _ => rfl) (fun _ _ => rfl) _
  all_goals exact .f1 rfl rfl fun _ _ => rfl

namespace HasFormat
variable {op : Byte} {i : Instr}

/-- The decoder reads an instruction of a format back from its encoding. -/
theorem decode_encode_append (h : HasFormat op i) (rest : List Byte) : decode (encode i ++ rest) = .ok i rest := by
  cases h with
  | f1 hlen henc hdec =>
    rw [henc, List.cons_append, decode_cons_eq_ok, hlen]
    exact ⟨by simp, hdec _ _, rfl⟩
  | f2 hlen henc hdec d8 =>
    rw [henc, format2, List.cons_append, decode_cons_eq_ok, hlen]
    exact ⟨by simp, hdec _ _, rfl⟩
  | @f3 f hlen henc hdec d16 =>
    rw [henc, format3_eq, List.cons_append, decode_cons_eq_ok, hlen]
    exact ⟨by simp, (hdec _ _).trans (congrArg f (immWord_loByte_hiByte d16)), rfl⟩

/-- The encoder gives the bytes back from which an opcode of a format decodes. -/
theorem encode_decodeOp (h : HasFormat op i) (b1 b2 : Byte) :
    encode (decodeOp op b1 b2) = [op, b1, b2].take (opLength op) := by
  cases h with
  | f1 hlen henc hdec => rw [hdec, henc, hlen]; rfl
  | f2 hlen henc hdec => rw [hdec, henc, hlen]; rfl
  | f3 hlen henc hdec => rw [hdec, henc, hlen]; exact format3_immWord op b1 b2

end HasFormat

/-- The decoder reads every instruction back from its encoding. -/
theorem decode_encode (i : Instr) : decode (encode i) = .ok i [] := by
  simpa using (hasFormat i).decode_encode_append []

/-! ## Undefined opcodes -/

/-- Whether an instruction is a documented one shows in its opcode byte alone. -/
theorem defined_eq_decide (i : Instr) : i.defined = decide (opcodeOf i ∉ undefinedOpcodes) := by
  cases i <;> rfl

/-! ## The step -/

/-- A step that is stopped by neither mark runs the instruction at the pc (30_encoding.md R74). -/
theorem step_of_running {s : State} (hf : s.faulted = none) (hh : s.halted = false) : step s = exec s.fetch s := by
  simp [step, hf, hh]

/-- A halted step idles (30_encoding.md R88). -/
theorem step_of_halted {s : State} (hf : s.faulted = none) (hh : s.halted = true) : step s = .next s.idle := by
  simp [step, hf, hh]

/-! ## The obligations -/

/-- Settles O2: every instruction has one of the three formats. -/
theorem decodeOfEncode : Obligations.DecodeOfEncode := by
  unfold Obligations.DecodeOfEncode
  exact fun i rest => (hasFormat i).decode_encode_append rest

/-- Settles O3: the decoded instruction has the opcode byte that was decoded, and one of the three formats. -/
theorem encodeOfDecode : Obligations.EncodeOfDecode := by
  unfold Obligations.EncodeOfDecode
  intro op b1 b2
  have hformat : HasFormat op (decodeOp op b1 b2) := by
    simpa only [opcodeOf_decodeOp] using hasFormat (decodeOp op b1 b2)
  exact hformat.encode_decodeOp b1 b2

/-- Settles O4: the decoded instruction has the opcode byte that was decoded. -/
theorem exactlyTwelveOpcodesAreUndefined : Obligations.ExactlyTwelveOpcodesAreUndefined := by
  unfold Obligations.ExactlyTwelveOpcodesAreUndefined
  intro op b1 b2
  rw [Instr.WellFormed, defined_eq_decide, opcodeOf_decodeOp, decide_eq_true_iff, not_not]
  exact Iff.rfl

/-- Settles O1: each word is the encoding of its instruction, so the field patterns agree with the words written out. -/
theorem specWordsDecode : Obligations.SpecWordsDecode := by
  unfold Obligations.SpecWordsDecode
  exact ⟨decode_encode .movBC, decode_encode .movMA, decode_encode (.mviA 0x5A), decode_encode (.lxiSP 0x1234),
    decode_encode .sbbM, decode_encode (.aci 0x0F), decode_encode .dadH, decode_encode .xraE, decode_encode (.cpi 0x40),
    decode_encode (.jpe 0x1234), decode_encode (.cc 0x1000), decode_encode .rp, decode_encode .rst5,
    decode_encode .pushPSW, decode_encode .popD, decode_encode (.inPort 0x01), decode_encode .hlt,
    decode_encode .undef08⟩

/-- Settles O5: the decoder's answer on the three bytes at the pc is the fetched instruction. -/
theorem stepRunsTheDecodedInstruction : Obligations.StepRunsTheDecodedInstruction := by
  unfold Obligations.StepRunsTheDecodedInstruction
  intro s i rest hf hh hdecode
  obtain ⟨-, hfetch, -⟩ := decode_cons_eq_ok.mp hdecode
  rw [step_of_running hf hh, ← hfetch]
  rfl

/-- Settles O6: a halted step idles or answers a recorded fault, and an accepted request and a reset clear the mark. -/
theorem haltedStepIdles : Obligations.HaltedStepIdles := by
  unfold Obligations.HaltedStepIdles
  refine ⟨fun s hf hh => step_of_halted hf hh, fun s t hh h => ?_, fun s _ hf hi => ?_, fun x t h => ?_⟩
  · rcases step_cases s with ⟨f, -, e⟩ | ⟨-, -, e⟩ | ⟨-, hrun, -⟩
    · cases e.symm.trans h
    · obtain rfl := Host.Outcome.next.inj (e.symm.trans h)
      exact hh
    · cases hh.symm.trans hrun
  · rw [raiseInterrupt_of_enabled hf hi]
    rfl
  · obtain ⟨rfl, -⟩ := launch_eq_next h
    rfl

end Sys2Proof.Machine
end

section
/-! Data transfer: every instruction sets one register, stores bytes, or writes a pair, and does nothing else
(40_data_transfer.md R100). -/

namespace Sys2Proof.Machine
open Sys2Proof.Claims

/-! ## Addresses and pairs -/

/-- The claims' address of M is the model's (30_encoding.md R76). -/
theorem hlOf_eq_hl (s : State) : hlOf s = s.hl := pairValue_eq_joinBytes s.h s.l

/-- A write of a pair with joined bytes gives each register its byte (10_state.md R22). -/
theorem setRp_de_joinBytes (s : State) (hi lo : Byte) : s.setRp .de (joinBytes hi lo) = { s with d := hi, e := lo } := by
  rw [State.setRp, hiByte_joinBytes, loByte_joinBytes]

theorem setRp_hl_joinBytes (s : State) (hi lo : Byte) : s.setRp .hl (joinBytes hi lo) = { s with h := hi, l := lo } := by
  rw [State.setRp, hiByte_joinBytes, loByte_joinBytes]

/-- The pc is no general register. -/
theorem getReg_advance (s : State) (r : Reg) (len : Word) : (s.advance len).getReg r = s.getReg r := by
  cases r <;> rfl

/-! ## The three effects -/

/-- Around a register's new value only the pc and the value returned change. -/
theorem onlyRegisters_setReg (s : State) (r : Reg) (v : Byte) (len : Word) (ret : StepReturn) :
    OnlyRegisters s (((s.advance len).setReg r v).returns ret) := by
  cases r <;> rfl

section
variable {i : Instr} {len : Word} {n : Nat}

/-- The whole next state of an instruction, from the state that its effect gives. -/
theorem exec_eq_next {f : State → State} {s t : State} (hi : exec i s = complete len n f s)
    (hf : f (s.advance len) = t) : exec i s = .next (t.returns (.cycles n)) := by
  rw [hi, complete, hf]

/-- An instruction whose effect is one register's new value `v`, which the pc is no part of. -/
theorem completes_setReg {r : Reg} {v : State → Byte} (hv : ∀ s : State, v (s.advance len) = v s)
    (hi : ∀ s, exec i s = complete len n (fun s => s.setReg r (v s)) s) (s : State) :
    Completes i s len n fun t => SetsRegister s t r (v s) ∧ OnlyRegisters s t := by
  refine ⟨_, hi s, setReg_pc (s.advance len) r _, rfl, fun q => ?_, onlyRegisters_setReg s r _ len _⟩
  rw [← hv s]
  exact getReg_setReg (s.advance len) r q _

/-- The same of A, with no other register written. -/
theorem completes_setA {v : State → Byte} (hv : ∀ s : State, v (s.advance len) = v s)
    (hi : ∀ s, exec i s = complete len n (fun s => s.setReg .a (v s)) s) (s : State) :
    Completes i s len n fun t => t.a = v s ∧ OnlyA s t :=
  ⟨_, hi s, rfl, rfl, hv s, rfl⟩

/-- An instruction whose effect is one stored byte, in whose address and value the pc is no part. -/
theorem completes_memWrite {addr : State → Word} {v : State → Byte}
    (haddr : ∀ s : State, addr (s.advance len) = addr s) (hv : ∀ s : State, v (s.advance len) = v s)
    (hi : ∀ s, exec i s = complete len n (fun s => s.memWrite (addr s) (v s)) s) (s : State) :
    Completes i s len n fun t => StoresByte s t (addr s) (v s) ∧ OnlyMemory s t := by
  rw [← haddr s, ← hv s]
  exact ⟨_, hi s, rfl, rfl, ⟨read_write_same _ _ _, fun x hx => read_write_ne _ _ hx⟩, rfl⟩

end

/-- Each row of the table is the opcode byte of the copy that it names (30_encoding.md R81). -/
theorem mov_row {op : Byte} {i : Instr} {dst src : Reg} (hrow : (op, i, dst, src) ∈ movRows) :
    (∀ b1 b2, decodeOp op b1 b2 = i) ∧
      ∀ s, exec i s = complete 1 5 (fun s => s.setReg dst (s.getReg src)) s := by
  fin_cases hrow
  all_goals exact ⟨fun _ _ => rfl, fun _ => rfl⟩

/-! ## The obligations -/

/-- Settles O18: each row is a copy, and a copy sets one register to a value that the pc is no part of. -/
theorem movRegisterToRegister : Obligations.MovRegisterToRegister := by
  unfold Obligations.MovRegisterToRegister
  intro op i dst src hrow
  obtain ⟨hdecode, hexec⟩ := mov_row hrow
  exact ⟨hdecode, completes_setReg (v := fun s => s.getReg src) (fun s => getReg_advance s src 1) hexec⟩

/-- Settles O19: the byte that is loaded is read before the register is written. -/
theorem movMemoryToRegister : Obligations.MovMemoryToRegister := by
  unfold Obligations.MovMemoryToRegister
  intro op i dst hrow
  simp only [hlOf_eq_hl]
  fin_cases hrow
  all_goals exact ⟨fun _ _ => rfl, completes_setReg (v := fun s => s.mem.read s.hl) (fun _ => rfl) fun _ => rfl⟩

/-- Settles O20: each row stores its register at HL. -/
theorem movRegisterToMemory : Obligations.MovRegisterToMemory := by
  unfold Obligations.MovRegisterToMemory
  intro op i r hrow
  simp only [hlOf_eq_hl]
  fin_cases hrow
  all_goals exact ⟨fun _ _ => rfl, completes_memWrite (addr := State.hl) (fun _ => rfl) (fun _ => rfl) fun _ => rfl⟩

/-- Settles O21: the value that is set or stored is the immediate byte. -/
theorem moveImmediate : Obligations.MoveImmediate := by
  unfold Obligations.MoveImmediate
  refine ⟨fun op i r hrow => ?_, fun _ _ => rfl, fun d8 s => ?_⟩
  · fin_cases hrow
    all_goals exact ⟨fun _ _ => rfl, fun d8 => completes_setReg (v := fun _ => d8) (fun _ => rfl) fun _ => rfl⟩
  · rw [hlOf_eq_hl]
    exact completes_memWrite (addr := State.hl) (v := fun _ => d8) (fun _ => rfl) (fun _ => rfl) (fun _ => rfl) s

/-- Settles O22: the operand word is the pair's value, and the claims' halves of a word are the bytes that a pair write
stores. -/
theorem loadPairImmediate : Obligations.LoadPairImmediate := by
  unfold Obligations.LoadPairImmediate
  refine ⟨fun lo hi => ?_, fun v s => ?_⟩
  · rw [pairValue_eq_joinBytes]
    exact ⟨rfl, rfl, rfl, rfl⟩
  · rw [highOf_eq_hiByte, lowOf_eq_loByte]
    exact ⟨rfl, rfl, rfl, rfl⟩

/-- Settles O23: the loads set A alone and the stores write one byte, at the operand word or at the pair's value. -/
theorem accumulatorLoadsAndStores : Obligations.AccumulatorLoadsAndStores := by
  unfold Obligations.AccumulatorLoadsAndStores
  simp only [pairValue_eq_joinBytes]
  refine ⟨fun lo hi => ⟨rfl, rfl, rfl, rfl, rfl, rfl⟩, fun s => ⟨fun x => ?lda, fun x => ?sta, ?ldaxB, ?ldaxD, ?staxB,
    ?staxD⟩⟩
  case lda => exact completes_setA (v := fun s => s.mem.read x) (fun _ => rfl) (fun _ => rfl) s
  case sta => exact completes_memWrite (addr := fun _ => x) (v := State.a) (fun _ => rfl) (fun _ => rfl) (fun _ => rfl) s
  case ldaxB => exact completes_setA (v := fun s => s.mem.read (s.getRp .bc)) (fun _ => rfl) (fun _ => rfl) s
  case ldaxD => exact completes_setA (v := fun s => s.mem.read (s.getRp .de)) (fun _ => rfl) (fun _ => rfl) s
  case staxB =>
    exact completes_memWrite (addr := fun s => s.getRp .bc) (v := State.a) (fun _ => rfl) (fun _ => rfl) (fun _ => rfl) s
  case staxD =>
    exact completes_memWrite (addr := fun s => s.getRp .de) (v := State.a) (fun _ => rfl) (fun _ => rfl) (fun _ => rfl) s

/-- Settles O24: LHLD writes HL with the joined bytes that it read, and SHLD is a 16-bit write. -/
theorem hlLoadAndStoreDirect : Obligations.HlLoadAndStoreDirect := by
  unfold Obligations.HlLoadAndStoreDirect
  simp only [pairValue_eq_joinBytes, hlOf_eq_hl]
  refine ⟨fun lo hi => ⟨rfl, rfl⟩, fun s x => ⟨?lhld, ?shld⟩⟩
  case lhld =>
    have hexec : exec (.lhld x) s = complete 3 16 (fun s => s.setRp .hl (s.mem.read16 x)) s := rfl
    exact exec_eq_next hexec (setRp_hl_joinBytes (s.advance 3) (s.mem.read (x + 1)) (s.mem.read x))
  case shld =>
    obtain ⟨-, hwrite, -⟩ := wordAccessIsLittleEndianAndWraps
    exact ⟨_, rfl, rfl, rfl, (hwrite s.mem x s.hl).2, rfl⟩

/-- Settles O25: both pairs are written with the joined bytes of the other's registers, read before. -/
theorem exchangeHlWithDe : Obligations.ExchangeHlWithDe := by
  unfold Obligations.ExchangeHlWithDe
  refine ⟨fun _ _ => rfl, fun s => ?_⟩
  have hexec : exec .xchg s = complete 1 4 (fun s => (s.setRp .hl (s.getRp .de)).setRp .de (s.getRp .hl)) s := rfl
  refine exec_eq_next hexec (t := { s.advance 1 with h := s.d, l := s.e, d := s.h, e := s.l }) ?_
  rw [State.getRp, setRp_hl_joinBytes, State.getRp, setRp_de_joinBytes]
  rfl

end Sys2Proof.Machine
end

section
/-! Arithmetic: additions and subtractions with all five flags, INR and DCR, the pair operations, and DAA
(41_arithmetic.md). -/

namespace Sys2Proof.Machine
open Sys2Proof.Claims

/-! ## Flags -/

/-- The model's parity is the claims' (00_scope.md R12). -/
theorem parity_eq_evenOnes (v : Byte) : parity v = evenOnes v := by
  revert v; decide

/-- `setszp` sets Z, S and P as its argument gives them (41_arithmetic.md R132). -/
theorem resultFlags_setszp (f : Flags) (res : Byte) : ResultFlags (f.setszp res) res := by
  refine ⟨?_, getLsbD_seven res, parity_eq_evenOnes res⟩
  rw [setszp_z, decide_eq_decide]
  exact BitVec.toNat_inj.symm

/-- The carries leave Z, S and P as they are. -/
theorem resultFlags_setflags (f : Flags) (r : AluResult) : ResultFlags (f.setflags r) r.res :=
  resultFlags_setszp f r.res

theorem inrFlags_of_eq {s t : State} {old new : Byte} (hf : t.flags = s.flags.inr old) (hnew : new = old + 1) :
    InrFlags s t old new := by
  rw [InrFlags, hf, hnew]
  exact ⟨resultFlags_setszp s.flags (old + 1), rfl, rfl⟩

theorem dcrFlags_of_eq {s t : State} {old new : Byte} (hf : t.flags = s.flags.dcr old) (hnew : new = old - 1) :
    DcrFlags s t old new := by
  rw [DcrFlags, hf, hnew]
  exact ⟨resultFlags_setszp s.flags (old - 1), rfl, rfl⟩

/-! ## The memory operand -/

/-- The claims' memory operand is the model's (30_encoding.md R76). -/
theorem mOperand_eq_src8 (s : State) : mOperand s = s.src8 .m := by
  rw [mOperand, hlOf_eq_hl]; rfl

/-! ## The shapes of an instruction -/

section
variable {i : Instr} {len : Word} {n : Nat}

theorem completes_mono {s : State} {P Q : State → Prop} (h : Completes i s len n P) (hPQ : ∀ t, P t → Q t) :
    Completes i s len n Q := by
  obtain ⟨t, hexec, hpc, hret, hp⟩ := h
  exact ⟨t, hexec, hpc, hret, hPQ t hp⟩

/-- An instruction that adds the operand `v` and the carry `x` into A, both read in the state before. -/
theorem addsToA_of_exec {v : State → Byte} {cin : State → Nat} (x : State → Bool) (hcin : ∀ s, cin s = (x s).toNat)
    (hi : ∀ s, exec i s = .next (((s.advance len).addA (v s) (x s)).returns (.cycles n))) : AddsToA i len n v cin := by
  intro s
  rw [hcin s]
  exact ⟨_, hi s, rfl, rfl, add8_res s.a (v s) (x s), resultFlags_setflags s.flags _, rfl, rfl, rfl⟩

/-- An instruction that subtracts the operand `v` and the borrow `x` from A, both read in the state before. -/
theorem subtractsFromA_of_exec {v : State → Byte} {bin : State → Nat} (x : State → Bool)
    (hbin : ∀ s, bin s = (x s).toNat)
    (hi : ∀ s, exec i s = .next (((s.advance len).subA (v s) (x s)).returns (.cycles n))) :
    SubtractsFromA i len n v bin := by
  intro s
  rw [hbin s]
  exact ⟨_, hi s, rfl, rfl, sub8_res s.a (v s) (x s), resultFlags_setflags s.flags _, sub8_cy s.a (v s) (x s),
    sub8_ac s.a (v s) (x s), rfl⟩

/-- An instruction that sets one register and the flags. -/
theorem completes_setReg_flags {r : Reg} {v : Byte} {f : Flags} {s : State}
    (hi : exec i s = .next (State.returns { (s.advance len).setReg r v with flags := f } (.cycles n))) :
    Completes i s len n fun t => t.getReg r = v ∧ t.flags = f ∧ SetsRegister s t r (t.getReg r) ∧
      OnlyRegisters { s with flags := t.flags } t := by
  cases r
  all_goals exact ⟨_, hi, rfl, rfl, rfl, rfl, fun q => by cases q <;> rfl, rfl⟩

/-- INR on a register (41_arithmetic.md R145). -/
theorem completes_inr_reg {r : Reg} {s : State} (hi : exec i s = complete len n (fun s => s.inr8 (.reg r)) s) :
    Completes i s len n fun t => (t.getReg r).toNat = ((s.getReg r).toNat + 1) % 256 ∧
      SetsRegister s t r (t.getReg r) ∧ InrFlags s t (s.getReg r) (t.getReg r) ∧
      OnlyRegisters { s with flags := t.flags } t := by
  refine completes_mono (completes_setReg_flags hi) ?_
  rintro t ⟨hget, hflags, hset, honly⟩
  rw [State.src8, getReg_advance] at hget hflags
  exact ⟨by rw [hget]; bv_omega, hset, inrFlags_of_eq hflags hget, honly⟩

/-- DCR on a register (41_arithmetic.md R147). -/
theorem completes_dcr_reg {r : Reg} {s : State} (hi : exec i s = complete len n (fun s => s.dcr8 (.reg r)) s) :
    Completes i s len n fun t => (t.getReg r).toNat = ((s.getReg r).toNat + 255) % 256 ∧
      SetsRegister s t r (t.getReg r) ∧ DcrFlags s t (s.getReg r) (t.getReg r) ∧
      OnlyRegisters { s with flags := t.flags } t := by
  refine completes_mono (completes_setReg_flags hi) ?_
  rintro t ⟨hget, hflags, hset, honly⟩
  rw [State.src8, getReg_advance] at hget hflags
  exact ⟨by rw [hget]; bv_omega, hset, dcrFlags_of_eq hflags hget, honly⟩

/-- An instruction that stores one byte and sets the flags. -/
theorem completes_memWrite_flags {addr : Word} {v : Byte} {f : Flags} {s : State}
    (hi : exec i s = .next (State.returns { (s.advance len).memWrite addr v with flags := f } (.cycles n))) :
    Completes i s len n fun t => t.mem.read addr = v ∧ t.flags = f ∧ StoresByte s t addr (t.mem.read addr) ∧
      OnlyMemory { s with flags := t.flags } t :=
  ⟨_, hi, rfl, rfl, read_write_same _ _ _, rfl, ⟨rfl, fun _ hx => read_write_ne _ _ hx⟩, rfl⟩

/-- An instruction that writes one pair or sp. -/
theorem completes_setRp {p : Rp} {v : Word} {s : State}
    (hi : exec i s = .next (((s.advance len).setRp p v).returns (.cycles n))) :
    Completes i s len n fun t => t.getRp p = v ∧ SetsPair s t p (t.getRp p) := by
  have hget : ∀ q, (((s.advance len).setRp p v).returns (.cycles n)).getRp q = if q = p then v else s.getRp q :=
    fun q => getRp_setRp_eq (s.advance len) p q v
  have hp := (hget p).trans (if_pos rfl)
  refine ⟨_, hi, setRp_pc (s.advance len) p v, rfl, hp, by rwa [hp], ?_⟩
  cases p <;> rfl

/-- INX (41_arithmetic.md R149). -/
theorem completes_inx {p : Rp} {s : State}
    (hi : exec i s = .next (((s.advance len).setRp p (s.getRp p + 1)).returns (.cycles n))) :
    Completes i s len n fun t => (t.getRp p).toNat = ((s.getRp p).toNat + 1) % 65536 ∧ SetsPair s t p (t.getRp p) :=
  completes_mono (completes_setRp hi) fun _ ⟨hget, hset⟩ => ⟨by rw [hget]; bv_omega, hset⟩

/-- DCX (41_arithmetic.md R150). -/
theorem completes_dcx {p : Rp} {s : State}
    (hi : exec i s = .next (((s.advance len).setRp p (s.getRp p - 1)).returns (.cycles n))) :
    Completes i s len n fun t => (t.getRp p).toNat = ((s.getRp p).toNat + 65535) % 65536 ∧ SetsPair s t p (t.getRp p) :=
  completes_mono (completes_setRp hi) fun _ ⟨hget, hset⟩ => ⟨by rw [hget]; bv_omega, hset⟩

/-- DAD: HL is the sum, CY its carry out of bit 15 (41_arithmetic.md R151). -/
theorem completes_addHl {v : Word} {s : State}
    (hi : exec i s = .next (((s.advance len).addHl v).returns (.cycles n))) :
    Completes i s len n fun t => (hlOf t).toNat = ((hlOf s).toNat + v.toNat) % 65536 ∧
      t = { s with h := t.h, l := t.l, pc := t.pc, lastReturn := t.lastReturn
                   flags := { s.flags with cy := decide (65535 < (hlOf s).toNat + v.toNat) } } := by
  simp only [hlOf_eq_hl]
  refine ⟨_, hi, rfl, rfl, ?_, rfl⟩
  have hsum : (((s.advance len).addHl v).returns (.cycles n)).hl = s.hl + v := joinBytes_hiByte_loByte (s.hl + v)
  rw [hsum, BitVec.toNat_add]

end

/-! ## DAA -/

/-- What DAA adds for the low nibble (41_arithmetic.md R152). -/
def daaLow (a : Byte) (f : Flags) : Nat := if f.ac = true ∨ 9 < a.toNat % 16 then 6 else 0

/-- What DAA adds for the high nibble. -/
def daaHigh (a : Byte) (f : Flags) : Nat :=
  if f.cy = true ∨ 9 < a.toNat / 16 ∨ (9 ≤ a.toNat / 16 ∧ 9 < a.toNat % 16) then 96 else 0

/-- The correction is the sum of the two parts; CY is set with the high part and never cleared. -/
theorem daaCorrection_eq (a : Byte) (f : Flags) :
    daaCorrection a f = (BitVec.ofNat 8 (daaLow a f + daaHigh a f), f.cy || decide (daaHigh a f = 96)) := by
  simp only [daaCorrection, daaLow, daaHigh, lowNibble, highNibble, Bool.or_eq_true, Bool.and_eq_true, decide_eq_true_eq,
    or_assoc, gt_iff_lt, ge_iff_le]
  by_cases hlow : f.ac = true ∨ 9 < a.toNat % 16
  all_goals
    by_cases hhigh : f.cy = true ∨ 9 < a.toNat / 16 ∨ (9 ≤ a.toNat / 16 ∧ 9 < a.toNat % 16)
    · simp [hlow, hhigh]
    · simp [hlow, hhigh]

/-- The high part does not reach the low nibble, so the addition carries out of bit 3 as the low part alone does. -/
theorem daaLow_add_daaHigh_mod (a : Byte) (f : Flags) :
    (daaLow a f + daaHigh a f) % 256 = daaLow a f + daaHigh a f ∧
      (daaLow a f + daaHigh a f) % 16 = daaLow a f := by
  have hlow : daaLow a f = 6 ∨ daaLow a f = 0 := ite_eq_or_eq _ _ _
  have hhigh : daaHigh a f = 96 ∨ daaHigh a f = 0 := ite_eq_or_eq _ _ _
  omega

theorem daa_a (s : State) : s.daa.a.toNat = (s.a.toNat + daaLow s.a s.flags + daaHigh s.a s.flags) % 256 := by
  have ha : s.daa.a = (add8 s.a (daaCorrection s.a s.flags).1 false).res := rfl
  rw [ha, add8_res, daaCorrection_eq, BitVec.toNat_ofNat, (daaLow_add_daaHigh_mod s.a s.flags).1, ← Nat.add_assoc]
  rfl

theorem daa_ac (s : State) : s.daa.flags.ac = decide (15 < s.a.toNat % 16 + daaLow s.a s.flags) := by
  obtain ⟨hbyte, hnibble⟩ := daaLow_add_daaHigh_mod s.a s.flags
  have hac : s.daa.flags.ac = decide (15 < s.a.toNat % 16 + (daaCorrection s.a s.flags).1.toNat % 16) := rfl
  rw [hac, daaCorrection_eq, BitVec.toNat_ofNat, hbyte, hnibble]

theorem daa_cy (s : State) : s.daa.flags.cy = (s.flags.cy || decide (daaHigh s.a s.flags = 96)) := by
  have hcy : s.daa.flags.cy = (daaCorrection s.a s.flags).2 := rfl
  rw [hcy, daaCorrection_eq]

/-! ## The obligations -/

/-- Settles O26: every form adds its operand and carry as they are before the instruction. -/
theorem additionIntoAccumulator : Obligations.AdditionIntoAccumulator := by
  unfold Obligations.AdditionIntoAccumulator
  refine ⟨fun op i r hrow => ?add, fun op i r hrow => ?adc, fun _ _ => ⟨rfl, rfl, rfl, rfl⟩, ?addM, ?adcM,
    fun v => ⟨?adi, ?aci⟩⟩
  case add =>
    fin_cases hrow
    all_goals exact ⟨fun _ _ => rfl, addsToA_of_exec (fun _ => false) (fun _ => rfl) fun _ => rfl⟩
  case adc =>
    fin_cases hrow
    all_goals exact ⟨fun _ _ => rfl, addsToA_of_exec (fun s => s.flags.cy) (fun _ => rfl) fun _ => rfl⟩
  case addM => exact addsToA_of_exec (fun _ => false) (fun _ => rfl) fun s => by rw [mOperand_eq_src8]; rfl
  case adcM => exact addsToA_of_exec (fun s => s.flags.cy) (fun _ => rfl) fun s => by rw [mOperand_eq_src8]; rfl
  case adi => exact addsToA_of_exec (fun _ => false) (fun _ => rfl) fun _ => rfl
  case aci => exact addsToA_of_exec (fun s => s.flags.cy) (fun _ => rfl) fun _ => rfl

/-- Settles O27: every form subtracts its operand and borrow as they are before the instruction. -/
theorem subtractionFromAccumulator : Obligations.SubtractionFromAccumulator := by
  unfold Obligations.SubtractionFromAccumulator
  refine ⟨fun op i r hrow => ?sub, fun op i r hrow => ?sbb, fun _ _ => ⟨rfl, rfl, rfl, rfl⟩, ?subM, ?sbbM,
    fun v => ⟨?sui, ?sbi⟩⟩
  case sub =>
    fin_cases hrow
    all_goals exact ⟨fun _ _ => rfl, subtractsFromA_of_exec (fun _ => false) (fun _ => rfl) fun _ => rfl⟩
  case sbb =>
    fin_cases hrow
    all_goals exact ⟨fun _ _ => rfl, subtractsFromA_of_exec (fun s => s.flags.cy) (fun _ => rfl) fun _ => rfl⟩
  case subM => exact subtractsFromA_of_exec (fun _ => false) (fun _ => rfl) fun s => by rw [mOperand_eq_src8]; rfl
  case sbbM => exact subtractsFromA_of_exec (fun s => s.flags.cy) (fun _ => rfl) fun s => by rw [mOperand_eq_src8]; rfl
  case sui => exact subtractsFromA_of_exec (fun _ => false) (fun _ => rfl) fun _ => rfl
  case sbi => exact subtractsFromA_of_exec (fun s => s.flags.cy) (fun _ => rfl) fun _ => rfl

/-- Settles O28: INR writes its operand and the flags, and nothing else. -/
theorem incrementByte : Obligations.IncrementByte := by
  unfold Obligations.IncrementByte
  refine ⟨fun op i r hrow => ?reg, fun _ _ => rfl, fun s => ?mem⟩
  case reg =>
    fin_cases hrow
    all_goals exact ⟨fun _ _ => rfl, fun s => completes_inr_reg rfl⟩
  case mem =>
    rw [mOperand_eq_src8, hlOf_eq_hl]
    have hstore := completes_memWrite_flags (i := .inrM) (len := 1) (n := 10) (s := s) (addr := s.hl)
      (v := s.src8 .m + 1) (f := s.flags.inr (s.src8 .m)) rfl
    refine completes_mono hstore ?_
    rintro t ⟨hread, hflags, hstores, honly⟩
    exact ⟨by rw [hread]; bv_omega, hstores, inrFlags_of_eq hflags hread, honly⟩

/-- Settles O29: DCR writes its operand and the flags, and nothing else. -/
theorem decrementByte : Obligations.DecrementByte := by
  unfold Obligations.DecrementByte
  refine ⟨fun op i r hrow => ?reg, fun _ _ => rfl, fun s => ?mem⟩
  case reg =>
    fin_cases hrow
    all_goals exact ⟨fun _ _ => rfl, fun s => completes_dcr_reg rfl⟩
  case mem =>
    rw [mOperand_eq_src8, hlOf_eq_hl]
    have hstore := completes_memWrite_flags (i := .dcrM) (len := 1) (n := 10) (s := s) (addr := s.hl)
      (v := s.src8 .m - 1) (f := s.flags.dcr (s.src8 .m)) rfl
    refine completes_mono hstore ?_
    rintro t ⟨hread, hflags, hstores, honly⟩
    exact ⟨by rw [hread]; bv_omega, hstores, dcrFlags_of_eq hflags hread, honly⟩

/-- Settles O30: each row writes its pair with the pair's value plus or minus 1. -/
theorem incrementAndDecrementPair : Obligations.IncrementAndDecrementPair := by
  unfold Obligations.IncrementAndDecrementPair
  refine ⟨fun op i p hrow => ?inx, fun op i p hrow => ?dcx⟩
  case inx =>
    fin_cases hrow
    all_goals exact ⟨fun _ _ => rfl, fun s => completes_inx rfl⟩
  case dcx =>
    fin_cases hrow
    all_goals exact ⟨fun _ _ => rfl, fun s => completes_dcx rfl⟩

/-- Settles O31: each row adds its pair's value into HL. -/
theorem addPairToHl : Obligations.AddPairToHl := by
  unfold Obligations.AddPairToHl
  intro op i p hrow
  fin_cases hrow
  all_goals exact ⟨fun _ _ => rfl, fun s => completes_addHl rfl⟩

/-- Settles O32: the statement's two parts of the correction are `daaLow` and `daaHigh`. -/
theorem decimalAdjust : Obligations.DecimalAdjust := by
  unfold Obligations.DecimalAdjust
  exact ⟨fun _ _ => rfl, fun s => ⟨((s.advance 1).daa).returns (.cycles 4), rfl, rfl, rfl, daa_a s,
    resultFlags_setszp s.flags s.daa.a, daa_ac s, daa_cy s, rfl⟩⟩

end Sys2Proof.Machine
end

section
/-! Logical: AND, OR and exclusive OR into A, comparison, the rotates, complement and carry (42_logical.md). -/

namespace Sys2Proof.Machine
open Sys2Proof.Claims

/-! ## Boolean operations and comparison -/

/-- The model's auxiliary carry of AND is the claims' (42_logical.md R170). -/
theorem anaAc_eq_andAc (s : State) (v : Byte) : anaAc s.params.anaAcMode s.a v = andAc s v := by
  unfold anaAc andAc
  cases s.params.anaAcMode with
  | clear => rfl
  | orBit3 => exact BitVec.getLsbD_or

section
variable {i : Instr} {len : Word} {n : Nat} {v : State → Byte}

/-- An instruction that puts `op` of A and its operand into A, where `op` works bit by bit, and sets the flags by the Boolean
flag rule (42_logical.md R170). -/
theorem combinesIntoA_of_exec {bit : Bool → Bool → Bool} {ac : State → Byte → Bool} (op : Byte → Byte → Byte)
    (hop : ∀ x y k, (op x y).getLsbD k = bit (x.getLsbD k) (y.getLsbD k))
    (hi : ∀ s, exec i s = .next (State.returns { s.advance len with
      a := op s.a (v s), flags := s.flags.logic (op s.a (v s)) (ac s (v s)) } (.cycles n))) :
    CombinesIntoA i len n bit ac v :=
  fun s => ⟨_, hi s, rfl, rfl, fun k _ => hop s.a (v s) k, resultFlags_setszp s.flags _, rfl, rfl, rfl⟩

theorem combinesIntoA_of_exec_andA
    (hi : ∀ s, exec i s = .next (((s.advance len).andA (v s)).returns (.cycles n))) :
    CombinesIntoA i len n and andAc v := by
  refine combinesIntoA_of_exec (· &&& ·) (fun _ _ _ => BitVec.getLsbD_and) fun s => ?_
  rw [hi s, ← anaAc_eq_andAc]
  rfl

theorem combinesIntoA_of_exec_xorA
    (hi : ∀ s, exec i s = .next (((s.advance len).xorA (v s)).returns (.cycles n))) :
    CombinesIntoA i len n xor zeroAc v :=
  combinesIntoA_of_exec (· ^^^ ·) (fun _ _ _ => BitVec.getLsbD_xor) hi

theorem combinesIntoA_of_exec_orA
    (hi : ∀ s, exec i s = .next (((s.advance len).orA (v s)).returns (.cycles n))) :
    CombinesIntoA i len n or zeroAc v :=
  combinesIntoA_of_exec (· ||| ·) (fun _ _ _ => BitVec.getLsbD_or) hi

/-- An instruction that sets the flags of a subtraction without borrow, and not A (42_logical.md R180). -/
theorem comparesWithA_of_exec
    (hi : ∀ s, exec i s = .next (((s.advance len).cmpA (v s)).returns (.cycles n))) : ComparesWithA i len n v :=
  fun s => ⟨_, hi s, rfl, rfl,
    ⟨(sub8 s.a (v s) false).res, sub8_res s.a (v s) false, resultFlags_setflags s.flags _⟩,
    sub8_cy s.a (v s) false, sub8_ac s.a (v s) false, rfl⟩

end

/-! ## The rotates -/

theorem getLsbD_bitByte (x : Bool) (k : Nat) : (bitByte x).getLsbD k = (decide (k = 0) && x) := by
  cases x
  · simp [bitByte]
  · simp [bitByte]

section
variable {i : Instr} {s : State} {x : Bool}

/-- A rotate to the left with `x` coming in: the bit that goes out is bit 7 (42_logical.md R183, R185). -/
theorem completes_rotateLeft
    (hi : exec i s = .next (State.returns { s.advance 1 with
      a := (s.a <<< 1) ||| bitByte x, flags := { s.flags with cy := s.a.getLsbD 7 } } (.cycles 4))) :
    Completes i s 1 4 fun t => (∀ k < 7, t.a.getLsbD (k + 1) = s.a.getLsbD k) ∧ t.a.getLsbD 0 = x ∧
      t.flags = { s.flags with cy := s.a.getLsbD 7 } ∧ OnlyAAndFlags s t := by
  have hbit (k : Nat) : ((s.a <<< 1) ||| bitByte x).getLsbD k =
      (decide (k < 8) && !decide (k < 1) && s.a.getLsbD (k - 1) || decide (k = 0) && x) := by
    rw [BitVec.getLsbD_or, BitVec.getLsbD_shiftLeft, getLsbD_bitByte]
  refine ⟨_, hi, rfl, rfl, fun k hk => (hbit (k + 1)).trans ?_, (hbit 0).trans ?_, rfl, rfl⟩
  · simp [Nat.succ_lt_succ hk]
  · simp

/-- A rotate to the right with `x` coming in: the bit that goes out is bit 0 (42_logical.md R184, R186). -/
theorem completes_rotateRight
    (hi : exec i s = .next (State.returns { s.advance 1 with
      a := (s.a >>> 1) ||| (bitByte x <<< 7), flags := { s.flags with cy := s.a.getLsbD 0 } } (.cycles 4))) :
    Completes i s 1 4 fun t => (∀ k < 7, t.a.getLsbD k = s.a.getLsbD (k + 1)) ∧ t.a.getLsbD 7 = x ∧
      t.flags = { s.flags with cy := s.a.getLsbD 0 } ∧ OnlyAAndFlags s t := by
  have hbit (k : Nat) : ((s.a >>> 1) ||| (bitByte x <<< 7)).getLsbD k =
      (s.a.getLsbD (1 + k) || (decide (k < 8) && !decide (k < 7) && (decide (k - 7 = 0) && x))) := by
    rw [BitVec.getLsbD_or, BitVec.getLsbD_ushiftRight, BitVec.getLsbD_shiftLeft, getLsbD_bitByte]
  refine ⟨_, hi, rfl, rfl, fun k hk => (hbit k).trans ?_, (hbit 7).trans ?_, rfl, rfl⟩
  · simp [hk, Nat.add_comm]
  · simp

end

/-! ## Rotates of the nine bits of CY and A -/

/-- Bit `j` of the nine bits that RAL and RAR rotate: A's bits 0 to 7, then CY (42_logical.md R185, R186). -/
def carryBit (s : State) (j : Fin 9) : Bool := if j = 8 then s.flags.cy else s.a.getLsbD j

/-- From `s` to `t` the nine bits move up by `m` places, round the end, and no flag but CY changes. -/
structure RotatesBy (m : Fin 9) (s t : State) : Prop where
  carryBit_add : ∀ j, carryBit t (j + m) = carryBit s j
  flags_eq : t.flags = { s.flags with cy := t.flags.cy }

namespace RotatesBy

theorem refl (s : State) : RotatesBy 0 s s := ⟨fun j => by rw [add_zero], rfl⟩

/-- Places add up. -/
theorem trans {m n : Fin 9} {s t u : State} (hst : RotatesBy m s t) (htu : RotatesBy n t u) : RotatesBy (m + n) s u where
  carryBit_add j := by rw [← add_assoc, htu.carryBit_add, hst.carryBit_add]
  flags_eq := by rw [htu.flags_eq, hst.flags_eq]

/-- Where every bit is in its place again, A and the flags are. -/
theorem a_flags_eq {s t : State} (h : RotatesBy 0 s t) : t.a = s.a ∧ t.flags = s.flags := by
  have hbit (j : Fin 9) : carryBit t j = carryBit s j := by simpa using h.carryBit_add j
  have hcy : t.flags.cy = s.flags.cy := hbit 8
  refine ⟨BitVec.eq_of_getLsbD_eq fun k hk => ?_, by rw [h.flags_eq, hcy]⟩
  have hne : (⟨k, by omega⟩ : Fin 9) ≠ 8 := Fin.ne_of_lt hk
  simpa only [carryBit, if_neg hne] using hbit ⟨k, by omega⟩

end RotatesBy

/-- RAL moves every one of the nine bits up by one place. -/
theorem exec_ral_rotatesBy (s : State) : ∃ t, exec .ral s = .next t ∧ RotatesBy 1 s t := by
  obtain ⟨t, hexec, -, -, hup, hin, hflags, -⟩ := completes_rotateLeft (i := .ral) (s := s) rfl
  refine ⟨t, hexec, fun j => ?_, by rw [hflags]⟩
  have hout : t.flags.cy = s.a.getLsbD 7 := by rw [hflags]
  match j with
  | 8 => exact hin
  | 7 => exact hout
  | 0 | 1 | 2 | 3 | 4 | 5 | 6 => exact hup _ (by decide)

/-- RAR moves every one of the nine bits down by one place. -/
theorem exec_rar_rotatesBy (s : State) : ∃ t, exec .rar s = .next t ∧ RotatesBy (-1) s t := by
  obtain ⟨t, hexec, -, -, hdown, hin, hflags, -⟩ := completes_rotateRight (i := .rar) (s := s) rfl
  refine ⟨t, hexec, fun j => ?_, by rw [hflags]⟩
  have hout : t.flags.cy = s.a.getLsbD 0 := by rw [hflags]
  match j with
  | 8 => exact hin
  | 0 => exact hout
  | 1 | 2 | 3 | 4 | 5 | 6 | 7 => exact hdown _ (by decide)

/-- Executions of an instruction that moves the nine bits by `m` places move them by `m` places each. -/
theorem repeated_rotatesBy {i : Instr} {m : Fin 9} (hi : ∀ s, ∃ t, exec i s = .next t ∧ RotatesBy m s t) (n : Nat)
    (s : State) : ∃ t, repeated i n s = .next t ∧ RotatesBy (n • m) s t := by
  induction n generalizing s with
  | zero => exact ⟨s, rfl, by simpa using RotatesBy.refl s⟩
  | succ n ih =>
    obtain ⟨t, hexec, hst⟩ := hi s
    obtain ⟨u, hrep, htu⟩ := ih t
    exact ⟨u, by rw [repeated, hexec, ← hrep], by simpa only [succ_nsmul'] using hst.trans htu⟩

/-- Nine such executions bring each bit back to its place, whatever `m` is. -/
theorem repeated_nine_restores {i : Instr} {m : Fin 9} (hi : ∀ s, ∃ t, exec i s = .next t ∧ RotatesBy m s t) (s : State) :
    ∃ t, repeated i 9 s = .next t ∧ t.a = s.a ∧ t.flags = s.flags := by
  obtain ⟨t, hrep, hst⟩ := repeated_rotatesBy hi 9 s
  have hnine : 9 • m = 0 := by simpa using card_nsmul_eq_zero (x := m)
  rw [hnine] at hst
  exact ⟨t, hrep, hst.a_flags_eq⟩

/-! ## The obligations -/

/-- Settles O33: every form combines A with its operand as it is before the instruction. -/
theorem booleanOperationsIntoAccumulator : Obligations.BooleanOperationsIntoAccumulator := by
  unfold Obligations.BooleanOperationsIntoAccumulator
  refine ⟨fun op i r hrow => ?ana, fun op i r hrow => ?xra, fun op i r hrow => ?ora,
    fun _ _ => ⟨rfl, rfl, rfl, rfl, rfl, rfl⟩, ?anaM, ?xraM, ?oraM, fun v => ⟨?ani, ?xri, ?ori⟩⟩
  case ana =>
    fin_cases hrow
    all_goals exact ⟨fun _ _ => rfl, combinesIntoA_of_exec_andA fun _ => rfl⟩
  case xra =>
    fin_cases hrow
    all_goals exact ⟨fun _ _ => rfl, combinesIntoA_of_exec_xorA fun _ => rfl⟩
  case ora =>
    fin_cases hrow
    all_goals exact ⟨fun _ _ => rfl, combinesIntoA_of_exec_orA fun _ => rfl⟩
  case anaM => exact combinesIntoA_of_exec_andA fun s => by rw [mOperand_eq_src8]; rfl
  case xraM => exact combinesIntoA_of_exec_xorA fun s => by rw [mOperand_eq_src8]; rfl
  case oraM => exact combinesIntoA_of_exec_orA fun s => by rw [mOperand_eq_src8]; rfl
  case ani => exact combinesIntoA_of_exec_andA fun _ => rfl
  case xri => exact combinesIntoA_of_exec_xorA fun _ => rfl
  case ori => exact combinesIntoA_of_exec_orA fun _ => rfl

/-- Settles O34: every form compares A with its operand as it is before the instruction. -/
theorem compareWithAccumulator : Obligations.CompareWithAccumulator := by
  unfold Obligations.CompareWithAccumulator
  refine ⟨fun op i r hrow => ?reg, fun _ _ => ⟨rfl, rfl⟩, ?mem, fun v => ?imm⟩
  case reg =>
    fin_cases hrow
    all_goals exact ⟨fun _ _ => rfl, comparesWithA_of_exec fun _ => rfl⟩
  case mem => exact comparesWithA_of_exec fun s => by rw [mOperand_eq_src8]; rfl
  case imm => exact comparesWithA_of_exec fun _ => rfl

/-- Settles O35: two rotates to the left and two to the right, with the bit that goes out or CY coming in. -/
theorem rotateAccumulator : Obligations.RotateAccumulator := by
  unfold Obligations.RotateAccumulator
  exact ⟨fun _ _ => ⟨rfl, rfl, rfl, rfl⟩, fun s => ⟨completes_rotateLeft rfl, completes_rotateRight rfl,
    completes_rotateLeft rfl, completes_rotateRight rfl⟩⟩

/-- Settles O36: RAL and RAR rotate nine bits, CY and A, by one place. -/
theorem nineRotatesThroughCarryRestore : Obligations.NineRotatesThroughCarryRestore := by
  unfold Obligations.NineRotatesThroughCarryRestore
  exact fun s => ⟨repeated_nine_restores exec_ral_rotatesBy s, repeated_nine_restores exec_rar_rotatesBy s⟩

/-- Settles O37: CMA writes A alone; the states after CMC and STC are those stated. -/
theorem complementAndCarry : Obligations.ComplementAndCarry := by
  unfold Obligations.ComplementAndCarry
  refine ⟨fun _ _ => ⟨rfl, rfl, rfl⟩, fun s => ⟨?cma, rfl, rfl⟩⟩
  case cma =>
    have hcma := completes_setA (i := .cma) (len := 1) (n := 4) (v := fun s => ~~~s.a) (fun _ => rfl) (fun _ => rfl) s
    exact completes_mono hcma fun t ⟨ha, honly⟩ => ⟨by rw [ha, toNat_complement], honly⟩

end Sys2Proof.Machine
end

section
/-! Branches: jumps, calls, returns and restarts (43_branch.md). A conditional branch that is not taken only moves past its
bytes. -/

namespace Sys2Proof.Machine
open Sys2Proof.Claims

/-! ## The effects -/

/-- The claims' word on the top of the stack is the model's (44_stack.md R221). -/
theorem wordAt_sp (s : State) : wordAt s s.sp = s.stackTop := pairValue_eq_joinBytes _ _

/-- A call from the pc behind its own `len` bytes pushes that pc and goes to its target (43_branch.md R203, R207). -/
theorem storesWord_callTo (s : State) (len x : Word) (r : StepReturn) :
    StoresWord s (((s.advance len).callTo x).returns r) (s.sp - 2) (s.pc + len) ∧
      ((s.advance len).callTo x).returns r =
        { s with mem := ((s.advance len).callTo x).mem, sp := s.sp - 2, pc := x, lastReturn := r } :=
  ⟨storesWord_push16 (s.advance len) (s.pc + len), rfl⟩

/-! ## The conditional branches -/

section
variable {i : Instr} {s : State} {taken : Bool}

/-- A conditional jump (43_branch.md R202). -/
theorem exec_of_completeIf_jumpTo {x : Word} (hi : exec i s = completeIf taken 3 10 10 (fun s => s.jumpTo x) s) :
    exec i s = .next { s with pc := if taken then x else s.pc + 3, lastReturn := .cycles 10 } := by
  rw [hi]
  cases taken with
  | false => rfl
  | true => rfl

/-- A conditional call (43_branch.md R204). -/
theorem exec_of_completeIf_callTo {x : Word} (hi : exec i s = completeIf taken 3 17 11 (fun s => s.callTo x) s) :
    ∃ t, exec i s = .next t ∧
      if taken then
        StoresWord s t (s.sp - 2) (s.pc + 3) ∧
          t = { s with mem := t.mem, sp := s.sp - 2, pc := x, lastReturn := .cycles 17 }
      else t = { s with pc := s.pc + 3, lastReturn := .cycles 11 } := by
  cases taken with
  | false => exact ⟨_, hi, rfl⟩
  | true => exact ⟨_, hi, storesWord_callTo s 3 x (.cycles 17)⟩

/-- A conditional return (43_branch.md R206). -/
theorem exec_of_completeIf_returnFrom (hi : exec i s = completeIf taken 1 11 5 State.returnFrom s) :
    exec i s = .next
      (if taken then { s with pc := s.stackTop, sp := s.sp + 2, lastReturn := .cycles 11 }
       else { s with pc := s.pc + 1, lastReturn := .cycles 5 }) := by
  rw [hi]
  cases taken with
  | false => rfl
  | true => rfl

end

/-! ## The obligations -/

/-- Settles O39: CALL pushes and jumps, and so does each row when its condition holds. -/
theorem calls : Obligations.Calls := by
  unfold Obligations.Calls
  simp only [pairValue_eq_joinBytes]
  refine ⟨fun _ _ => rfl, fun x s => ⟨_, rfl, storesWord_callTo s 3 x (.cycles 17)⟩, fun op i cond hrow => ?row⟩
  case row =>
    fin_cases hrow
    all_goals exact ⟨fun _ _ => rfl, fun _ _ => exec_of_completeIf_callTo rfl⟩

/-- Settles O38: each row is a jump under its condition. -/
theorem jumps : Obligations.Jumps := by
  unfold Obligations.Jumps
  simp only [pairValue_eq_joinBytes, hlOf_eq_hl]
  refine ⟨fun _ _ => ⟨rfl, rfl⟩, fun _ _ => rfl, fun _ => rfl, fun op i cond hrow => ?row⟩
  case row =>
    fin_cases hrow
    all_goals exact ⟨fun _ _ => rfl, fun _ _ => exec_of_completeIf_jumpTo rfl⟩

/-- Settles O40: each row is a return under its condition. -/
theorem returns : Obligations.Returns := by
  unfold Obligations.Returns
  simp only [wordAt_sp]
  refine ⟨fun _ _ => rfl, fun _ => rfl, fun op i cond hrow => ?row⟩
  case row =>
    fin_cases hrow
    all_goals exact ⟨fun _ _ => rfl, fun _ => exec_of_completeIf_returnFrom rfl⟩

/-- Settles O41: each row is a call of its target from the pc behind one byte. -/
theorem restart : Obligations.Restart := by
  unfold Obligations.Restart
  intro op i target hrow
  fin_cases hrow
  all_goals exact ⟨fun _ _ => rfl, fun s => ⟨_, rfl, storesWord_callTo s 1 _ (.cycles 11)⟩⟩

end Sys2Proof.Machine
end

section
/-! The stack: pops, a pop after a push, XTHL and SPHL (44_stack.md). A push stores its word where the next pop reads it, so the
word comes back; XTHL's two 16-bit accesses at sp swap HL with that word. -/

namespace Sys2Proof.Machine
open Sys2Proof.Claims

/-! ## Memory at a word's address -/

/-- A 16-bit write stores its word (20_memory.md R56). -/
theorem storesWord_write16 {s t : State} {a v : Word} (h : t.mem = s.mem.write16 a v) : StoresWord s t a v := by
  obtain ⟨-, hwrite, -⟩ := wordAccessIsLittleEndianAndWraps
  rw [StoresWord, h]
  exact (hwrite s.mem a v).2

/-- Writing back the word that a 16-bit write replaced restores a canonical memory. -/
theorem write16_write16_read16 {m : Memory} (h : m.wf = true) (a v : Word) :
    (m.write16 a v).write16 a (m.read16 a) = m := by
  refine equalContentsAreEqualMemories _ _ (wf_write16 _ _ (wf_write16 _ _ h)) h fun x => ?_
  rw [write16_read, Memory.read16, hiByte_joinBytes, loByte_joinBytes]
  split
  · next hhi => rw [hhi]
  · next hhi =>
    split
    · next hlo => rw [hlo]
    · next hlo => rw [write16_read, if_neg hhi, if_neg hlo]

/-! ## Pops -/

/-- POP of a pair (44_stack.md R224). -/
theorem completes_pop {i : Instr} {s : State} {p : Rp} (hp : p ≠ .sp)
    (hi : exec i s = complete 1 10 (fun s => s.dropTop.setRp p s.stackTop) s) :
    Completes i s 1 10 fun t => t.sp = s.sp + 2 ∧ SetsPair { s with sp := s.sp + 2 } t p s.stackTop := by
  have hget : ∀ q, (((s.advance 1).dropTop.setRp p s.stackTop).returns (.cycles 10)).getRp q =
      if q = p then s.stackTop else State.getRp { s with sp := s.sp + 2 } q :=
    fun q => getRp_setRp_eq (s.advance 1).dropTop p q s.stackTop
  refine ⟨_, hi, setRp_pc (s.advance 1).dropTop p _, rfl, (hget .sp).trans (if_neg hp.symm), hget, ?_⟩
  cases p <;> rfl

/-- POP PSW (44_stack.md R225). -/
theorem completes_popPSW (s : State) :
    Completes .popPSW s 1 10 fun t => t.a = s.mem.read (s.sp + 1) ∧ t.flags = Flags.ofByte (s.mem.read s.sp) ∧
      t.sp = s.sp + 2 ∧ OnlyAAndFlags { s with sp := t.sp } t :=
  ⟨_, rfl, rfl, rfl, hiByte_joinBytes _ _, congrArg Flags.ofByte (loByte_joinBytes _ _), rfl, rfl⟩

/-! ## A pop after a push -/

/-- The word that was pushed is on the top of the stack (44_stack.md R228). -/
@[simp] theorem stackTop_push16 (s : State) (v : Word) : (s.push16 v).stackTop = v := by
  have hne : s.sp - 1 ≠ s.sp - 2 := by bv_omega
  rw [State.stackTop, Memory.read16, push16_sp, sub_two_add_one, push16_read, push16_read, if_neg hne, if_pos rfl,
    if_pos rfl, joinBytes_hiByte_loByte]

/-- Dropping it brings sp back. -/
@[simp] theorem dropTop_push16_sp (s : State) (v : Word) : (s.push16 v).dropTop.sp = s.sp :=
  BitVec.sub_add_cancel s.sp 2

/-- After an instruction that pushed two bytes, the word that a pop gets has them as its halves, and its sp is as before the
push. -/
theorem popped_bytes_of_push {push : Instr} {hi lo : Byte} {s t : State}
    (hpush : exec push s = .next (((s.advance 1).push16 (joinBytes hi lo)).returns (.cycles 11)))
    (ht : exec push s = .next t) :
    hiByte t.stackTop = hi ∧ loByte t.stackTop = lo ∧ t.dropTop.sp = s.sp := by
  obtain rfl := Host.Outcome.next.inj (hpush.symm.trans ht)
  have hword : (((s.advance 1).push16 (joinBytes hi lo)).returns (.cycles 11)).stackTop = joinBytes hi lo :=
    stackTop_push16 (s.advance 1) (joinBytes hi lo)
  rw [hword]
  exact ⟨hiByte_joinBytes hi lo, loByte_joinBytes hi lo, dropTop_push16_sp (s.advance 1) (joinBytes hi lo)⟩

/-! ## XTHL -/

/-- The whole next state of XTHL (44_stack.md R226): both words are read before they are written. -/
theorem exec_xthl (s : State) :
    exec .xthl s = .next
      { s with h := s.mem.read (s.sp + 1), l := s.mem.read s.sp, mem := s.mem.write16 s.sp s.hl
               pc := s.pc + 1, lastReturn := .cycles 18 } := by
  have hexec : exec .xthl s =
    complete 1 18 (fun s => State.setRp { s with mem := s.mem.write16 s.sp s.hl } .hl s.stackTop) s := rfl
  exact exec_eq_next hexec (setRp_hl_joinBytes _ _ _)

/-! ## The obligations -/

/-- Settles O43: each row pops into its pair, and POP PSW's two bytes are A and the flag byte. -/
theorem popPairsAndPsw : Obligations.PopPairsAndPsw := by
  unfold Obligations.PopPairsAndPsw
  simp only [wordAt_sp]
  refine ⟨fun op i p hrow => ?row, fun _ _ => rfl, fun s => ?psw⟩
  case row =>
    fin_cases hrow
    all_goals exact ⟨fun _ _ => rfl, fun s => completes_pop (by decide) rfl⟩
  case psw =>
    refine completes_mono (completes_popPSW s) fun t ⟨ha, hflags, hsp, honly⟩ => ?_
    rw [hflags]
    exact ⟨ha, rfl, rfl, rfl, rfl, rfl, hsp, honly⟩

/-- Settles O44: each of the four pops writes the word that was pushed, whose halves are the registers' bytes. -/
theorem pushThenPopRestores : Obligations.PushThenPopRestores := by
  unfold Obligations.PushThenPopRestores
  refine ⟨fun s v => ?word, fun s t u ht hu => ?bc, fun s t u ht hu => ?de, fun s t u ht hu => ?hl,
    fun s t u ht hu => ?psw⟩
  case word =>
    obtain ⟨hlow, hhigh, -⟩ := storesWord_push16 s v
    rw [sub_two_add_one] at hhigh
    exact ⟨stackTop_push16 s v, dropTop_push16_sp s v, hhigh, hlow⟩
  case bc =>
    obtain rfl := Host.Outcome.next.inj hu
    exact popped_bytes_of_push (hi := s.b) (lo := s.c) (t := t) rfl ht
  case de =>
    obtain rfl := Host.Outcome.next.inj hu
    exact popped_bytes_of_push (hi := s.d) (lo := s.e) (t := t) rfl ht
  case hl =>
    obtain rfl := Host.Outcome.next.inj hu
    exact popped_bytes_of_push (hi := s.h) (lo := s.l) (t := t) rfl ht
  case psw =>
    obtain rfl := Host.Outcome.next.inj hu
    obtain ⟨ha, hflags, hsp⟩ := popped_bytes_of_push (hi := s.a) (lo := s.flags.byte) rfl ht
    exact ⟨ha, (congrArg Flags.ofByte hflags).trans (ofByte_byte s.flags), hsp⟩

/-- Settles O46: the second XTHL writes back the word that the first one read, and reads the HL that the first one wrote. -/
theorem twoStackTopExchangesRestore : Obligations.TwoStackTopExchangesRestore := by
  unfold Obligations.TwoStackTopExchangesRestore
  intro s t u hwf ht hu
  obtain rfl := Host.Outcome.next.inj ((exec_xthl s).symm.trans ht)
  obtain rfl := Host.Outcome.next.inj ((exec_xthl _).symm.trans hu)
  have hmem : (s.mem.write16 s.sp s.hl).write16 s.sp (s.mem.read16 s.sp) = s.mem := write16_write16_read16 hwf s.sp s.hl
  have hh : (s.mem.write16 s.sp s.hl).read (s.sp + 1) = s.h := by
    rw [write16_read, if_pos rfl]
    exact hiByte_joinBytes s.h s.l
  have hl : (s.mem.write16 s.sp s.hl).read s.sp = s.l := by
    rw [write16_read, if_neg (succ_ne s.sp).symm, if_pos rfl]
    exact loByte_joinBytes s.h s.l
  have hpc : s.pc + 1 + 1 = s.pc + 2 := by bv_omega
  show ({ s with
    h := (s.mem.write16 s.sp s.hl).read (s.sp + 1), l := (s.mem.write16 s.sp s.hl).read s.sp
    mem := (s.mem.write16 s.sp s.hl).write16 s.sp (s.mem.read16 s.sp)
    pc := s.pc + 1 + 1, lastReturn := .cycles 18 } : State) = _
  rw [hmem, hh, hl, hpc]

/-- Settles O45: XTHL stores HL's word at sp, where it read the new HL. -/
theorem exchangeStackTopAndLoadSp : Obligations.ExchangeStackTopAndLoadSp := by
  unfold Obligations.ExchangeStackTopAndLoadSp
  simp only [hlOf_eq_hl]
  exact ⟨fun _ _ => ⟨rfl, rfl⟩, fun s => ⟨⟨_, exec_xthl s, rfl, rfl, storesWord_write16 rfl, rfl, rfl, rfl⟩, rfl⟩⟩

end Sys2Proof.Machine
end

section
/-! I/O and control (45_io_control.md): the port instructions, EI, DI, HLT and NOP with what follows an EI and a HLT, and the
undefined opcodes under each policy. -/

namespace Sys2Proof.Machine
open Sys2Proof.Claims

/-! ## The port's answer -/

/-- While the host's answers last, a port read gets the next of them (45_io_control.md R247). -/
theorem portAnswer_of_cons {s : State} {v : Byte} {rest : List Byte} (h : s.portAnswers = v :: rest) (p : Byte) :
    s.portAnswer p = v := by
  rw [State.portAnswer, h]

/-- After them it gets the free value. -/
theorem portAnswer_of_nil {s : State} (h : s.portAnswers = []) (p : Byte) :
    s.portAnswer p = Config.portIn p s.portCalls.length := by
  rw [State.portAnswer, h]

/-- The whole next state of IN, for whatever byte the port answers (45_io_control.md R240). -/
theorem exec_inPort (p : Byte) (s : State) :
    exec (.inPort p) s = .next
      { s with a := s.portAnswer p, portCalls := s.portCalls ++ [.input p (s.portAnswer p)]
               portAnswers := s.portAnswers.tail, pc := s.pc + 2, lastReturn := .cycles 10 } :=
  rfl

/-! ## Requests after EI and HLT -/

/-- The interrupted pc is on the top of the stack (60_exceptions.md R265). -/
@[simp] theorem stackTop_acceptInterrupt (s : State) : s.acceptInterrupt.stackTop = s.pc :=
  stackTop_push16 { s with inte := false, halted := false } s.pc

/-- A request right after EI is accepted (45_io_control.md R242). -/
theorem raiseInterrupt_after_ei {s t : State} (hf : s.faulted = none) (ht : exec .ei s = .next t) :
    t.raiseInterrupt.inte = false ∧ t.raiseInterrupt.pc = s.params.intVector := by
  obtain ⟨hfaulted, hinte, hparams⟩ : t.faulted = s.faulted ∧ t.inte = true ∧ t.params = s.params := by
    obtain rfl := Host.Outcome.next.inj ht
    exact ⟨rfl, rfl, rfl⟩
  rw [raiseInterrupt_of_enabled (hfaulted.trans hf) hinte, acceptInterrupt_pc, hparams]
  exact ⟨acceptInterrupt_inte t, rfl⟩

/-- The marks and the pc after a HLT (45_io_control.md R244). -/
theorem marks_after_hlt {s t : State} (ht : exec .hlt s = .next t) :
    t.faulted = s.faulted ∧ t.halted = true ∧ t.inte = s.inte ∧ t.pc = s.pc + 1 := by
  obtain rfl := Host.Outcome.next.inj ht
  exact ⟨rfl, rfl, rfl, rfl⟩

/-! ## Undefined opcodes -/

/-- An instruction that is an undefined opcode does what the policy says; the silicon runs `other` for it
(45_io_control.md R246). -/
theorem exec_of_undefinedOpcode {op : Byte} {i other : Instr} {s : State}
    (hi : exec i s = undefinedOpcode op (exec other) s) :
    (s.params.undefPolicy = .fault →
      exec i s = .next { s with faulted := some ⟨op, s.pc⟩, lastReturn := .fault ⟨op, s.pc⟩ }) ∧
    (s.params.undefPolicy = .nop → exec i s = .next { s with pc := s.pc + 1, lastReturn := .cycles 4 }) ∧
    (s.params.undefPolicy = .aliased → exec i s = exec other s) := by
  rw [hi]
  exact ⟨undefinedOpcode_fault, undefinedOpcode_nop, undefinedOpcode_aliased⟩

/-! ## The obligations -/

/-- Settles O47: IN takes the byte that the port answers, which is the next of the host's answers or the free value; OUT's next
state is the one stated. -/
theorem portInputAndOutput : Obligations.PortInputAndOutput := by
  unfold Obligations.PortInputAndOutput
  refine ⟨fun _ _ => ⟨rfl, rfl⟩, fun p s v rest hanswers => ?answered, fun p s hanswers => ?free, fun _ _ => rfl⟩
  case answered => rw [exec_inPort, portAnswer_of_cons hanswers, hanswers, List.tail_cons]
  case free => rw [exec_inPort, portAnswer_of_nil hanswers, hanswers, List.tail_nil]

/-- Settles O48: after EI a request is accepted; after HLT a step idles, and a request is accepted or dropped as INTE was. -/
theorem controlInstructions : Obligations.ControlInstructions := by
  unfold Obligations.ControlInstructions
  refine ⟨fun _ _ => ⟨rfl, rfl, rfl, rfl⟩, fun _ => ⟨rfl, rfl, rfl, rfl⟩, fun s t hf ht => ?ei, fun s t hf ht => ?hlt⟩
  case ei => exact raiseInterrupt_after_ei hf ht
  case hlt =>
    obtain ⟨hfaulted, hhalted, hinte, hpc⟩ := marks_after_hlt ht
    rw [hf] at hfaulted
    refine ⟨step_of_halted hfaulted hhalted, fun hi => ?accepted, fun hi => raiseInterrupt_of_disabled (hinte.trans hi)⟩
    case accepted =>
      rw [raiseInterrupt_of_enabled hfaulted (hinte.trans hi), wordAt_sp, stackTop_acceptInterrupt]
      exact ⟨acceptInterrupt_halted t, hpc⟩

/-- Settles O49: each row is an undefined opcode with its alias. -/
theorem undefinedOpcodesFollowThePolicy : Obligations.UndefinedOpcodesFollowThePolicy := by
  unfold Obligations.UndefinedOpcodesFollowThePolicy
  simp only [pairValue_eq_joinBytes]
  intro op i other hrow
  fin_cases hrow
  all_goals exact ⟨fun _ _ => rfl, fun _ _ => exec_of_undefinedOpcode rfl⟩

end Sys2Proof.Machine
end

section
/-! Exceptions: when an instruction takes the decode fault and what a step answers then, the invariants of the fault mark, and
interrupt requests with their return (60_exceptions.md). -/

namespace Sys2Proof.Machine
open Sys2Proof.Claims

/-! ## What an instruction answers -/

section
variable {len : Word} {n k : Nat} {f : State → State} {s : State}

/-- A completed instruction answers a next state, which has the fault mark that its effect gives. -/
theorem complete_keeps_faulted (hf : (f (s.advance len)).faulted = s.faulted) :
    ∃ t, complete len n f s = .next t ∧ t.faulted = s.faulted :=
  ⟨_, rfl, hf⟩

/-- So does a conditional one. -/
theorem completeIf_keeps_faulted {taken : Bool} (hf : (f (s.advance len)).faulted = s.faulted) :
    ∃ t, completeIf taken len n k f s = .next t ∧ t.faulted = s.faulted := by
  cases taken with
  | false => exact complete_keeps_faulted (advance_faulted s len)
  | true => exact complete_keeps_faulted hf

end

/-- A documented instruction answers a next state with the same fault mark (60_exceptions.md R260). `exec` is opened first, so
that `complete` is the head of both sides when the goal is matched. -/
theorem exec_of_defined {i : Instr} (hi : i.defined = true) (s : State) :
    ∃ t, exec i s = .next t ∧ t.faulted = s.faulted := by
  cases i <;> dsimp only [exec]
  case undef08 | undef10 | undef18 | undef20 | undef28 | undef30 | undef38 | undefCB | undefD9 | undefDD | undefED |
      undefFD =>
    cases hi
  case jnz | jz | jnc | jc | jpo | jpe | jp | jm | cnz | cz | cnc | cc | cpo | cpe | cp | cm |
      rnz | rz | rnc | rc | rpo | rpe | rp | rm =>
    exact completeIf_keeps_faulted (by simp)
  all_goals exact complete_keeps_faulted (by simp)

/-- An undefined opcode follows the policy with its own byte, and the instruction that the silicon runs for it is one that
answers a next state with the same fault mark (45_io_control.md R246). -/
theorem exec_of_undefined {i : Instr} (hi : i.defined = false) (s : State) :
    ∃ onAlias, exec i s = undefinedOpcode (opcodeOf i) onAlias s ∧
      ∃ t, onAlias s = .next t ∧ t.faulted = s.faulted := by
  cases i
  case undef08 | undef10 | undef18 | undef20 | undef28 | undef30 | undef38 | undefCB | undefD9 | undefDD | undefED |
      undefFD =>
    exact ⟨_, rfl, _, rfl, rfl⟩
  all_goals cases hi

/-- Under the policy `fault` an undefined opcode takes the decode fault at the pc (60_exceptions.md R261). -/
theorem exec_takes_decodeFault {i : Instr} {s : State} (hi : i.defined = false) (hp : s.params.undefPolicy = .fault) :
    exec i s = .next (s.raiseDecodeFault (opcodeOf i) s.pc) := by
  obtain ⟨onAlias, e, -⟩ := exec_of_undefined hi s
  rw [e, undefinedOpcode_fault hp]

/-- In every other case the next state has the same fault mark. -/
theorem exec_keeps_faulted {i : Instr} {s : State} (h : ¬(i.defined = false ∧ s.params.undefPolicy = .fault)) :
    ∃ t, exec i s = .next t ∧ t.faulted = s.faulted := by
  cases hi : i.defined with
  | true => exact exec_of_defined hi s
  | false =>
    obtain ⟨onAlias, e, halias⟩ := exec_of_undefined hi s
    cases hp : s.params.undefPolicy with
    | fault => exact absurd ⟨hi, hp⟩ h
    | nop => exact ⟨_, e.trans (undefinedOpcode_nop hp), rfl⟩
    | aliased => rwa [e, undefinedOpcode_aliased hp]

/-- Every instruction answers a next state, in every state (60_exceptions.md R260). -/
theorem exec_answers_next (i : Instr) (s : State) : ∃ t, exec i s = .next t := by
  by_cases h : i.defined = false ∧ s.params.undefPolicy = .fault
  · obtain ⟨hi, hp⟩ := h
    exact ⟨_, exec_takes_decodeFault hi hp⟩
  · obtain ⟨t, ht, -⟩ := exec_keeps_faulted h
    exact ⟨t, ht⟩

/-! ## What a step answers -/

/-- The opcode of the fetched instruction is the byte at the pc. -/
@[simp] theorem opcodeOf_fetch (s : State) : opcodeOf s.fetch = s.mem.read s.pc := opcodeOf_decodeOp _ _ _

theorem fetch_undefined_iff (s : State) : s.fetch.defined = false ↔ s.mem.read s.pc ∈ undefinedOpcodes := by
  rw [defined_eq_decide, opcodeOf_fetch, decide_eq_false_iff_not, not_not]

/-- A faulted session answers its fault again (60_exceptions.md R262). -/
theorem step_of_faulted {s : State} {f : DecodeFault} (hf : s.faulted = some f) :
    step s = .fault (.decodeFault f.opcode f.addr) := by
  rw [step, hf]

/-- A session without a fault mark steps to a next state. -/
theorem step_answers_next {s : State} (hf : s.faulted = none) : ∃ t, step s = .next t := by
  cases hh : s.halted with
  | true => exact ⟨_, step_of_halted hf hh⟩
  | false => rw [step_of_running hf hh]; exact exec_answers_next s.fetch s

/-! ## The invariants -/

/-- Only memory, the fault mark and the parameters count for the invariant. -/
theorem inv_of_eq {s t : State} (h : s.Inv) (hmem : t.mem = s.mem) (hf : t.faulted = s.faulted)
    (hp : t.params = s.params) : t.Inv :=
  ⟨hmem ▸ h.memory, hf ▸ hp ▸ h.fault⟩

theorem kept_inv : Kept State.Inv where
  reg s r v h := inv_of_eq h (setReg_mem s r v) (setReg_faulted s r v) (setReg_params s r v)
  flags _ _ h := inv_of_eq h rfl rfl rfl
  pc _ _ h := inv_of_eq h rfl rfl rfl
  sp _ _ h := inv_of_eq h rfl rfl rfl
  inte _ _ h := inv_of_eq h rfl rfl rfl
  halted _ _ h := inv_of_eq h rfl rfl rfl
  mem _ a v h := ⟨wf_write a v h.memory, h.fault⟩
  lastReturn _ _ h := inv_of_eq h rfl rfl rfl
  ports _ _ _ h := inv_of_eq h rfl rfl rfl
  fault _ _ _ hp hop h := ⟨h.memory, fun _ hf => Option.some.inj hf ▸ ⟨hop, hp⟩⟩

/-- A host call keeps a property that the writes of Kept keep, if every reset gives it. -/
theorem hostCall_keeps {P : State → Prop} (k : Kept P) (hreset : ∀ x t, launch x = .next t → P t) {call : HostCall}
    {s t : State} (hs : P s) (h : hostCall call s = .next t) : P t := by
  cases call
  case step => exact step_keeps k hs h
  case reset x => exact hreset x t h
  all_goals obtain rfl := Host.Outcome.next.inj h
  case raiseInterrupt => exact k.raiseInterrupt s hs
  case writeReg r v => exact k.reg s r v hs
  case writeRp p v => exact k.setRp s p v hs
  case writeFlag n x => exact k.flags s _ hs
  case writePc v => exact k.pc s v hs
  case writeMem a v => exact k.mem s a v hs
  case answer vs => exact k.ports s s.portCalls _ hs

/-- A run of host calls that gives a next state is its first call's, then the rest's. -/
theorem runCalls_cons_eq_next {call : HostCall} {rest : List HostCall} {s t : State}
    (h : runCalls (call :: rest) s = .next t) : ∃ u, hostCall call s = .next u ∧ runCalls rest u = .next t := by
  rw [runCalls] at h
  split at h
  · next u hu => exact ⟨u, hu, h⟩
  · cases h
  · cases h

/-- Every run of host calls keeps such a property. -/
theorem runCalls_keeps {P : State → Prop} (k : Kept P) (hreset : ∀ x t, launch x = .next t → P t)
    (calls : List HostCall) {s t : State} (hs : P s) (h : runCalls calls s = .next t) : P t := by
  induction calls generalizing s with
  | nil => exact Host.Outcome.next.inj h ▸ hs
  | cons call rest ih =>
    obtain ⟨u, hu, hrest⟩ := runCalls_cons_eq_next h
    exact ih (hostCall_keeps k hreset hs hu) hrest

/-- The fault that names the byte at the pc is precise (60_exceptions.md R261). -/
theorem preciseFault_raiseDecodeFault (s : State) : (s.raiseDecodeFault (s.mem.read s.pc) s.pc).PreciseFault := by
  intro f hf
  obtain rfl := Option.some.inj hf
  exact ⟨rfl, rfl, rfl⟩

/-! ## Interrupt requests -/

/-- An accepted request stores the pc at sp - 2 and is otherwise the stated update (60_exceptions.md R265). -/
theorem storesWord_acceptInterrupt (s : State) : StoresWord s s.acceptInterrupt (s.sp - 2) s.pc :=
  storesWord_push16 { s with inte := false, halted := false } s.pc

/-- The top of the stack is the two bytes at sp. -/
theorem stackTop_eq_of_read {s t : State} (hsp : t.sp = s.sp) (hlo : t.mem.read t.sp = s.mem.read t.sp)
    (hhi : t.mem.read (t.sp + 1) = s.mem.read (t.sp + 1)) : t.stackTop = s.stackTop := by
  rw [State.stackTop, State.stackTop, Memory.read16, Memory.read16, hlo, hhi, hsp]

/-! ## The obligations -/

/-- Settles O9: the invariant is one of the properties that every write keeps, and every reset gives it. -/
theorem stepAndHostCallsKeepInvariant : Obligations.StepAndHostCallsKeepInvariant := by
  unfold Obligations.StepAndHostCallsKeepInvariant
  obtain ⟨-, -, hlaunch⟩ := resetMeetsInvariants
  exact ⟨fun _ _ hs h => step_keeps kept_inv hs h,
    fun calls _ _ hs h => runCalls_keeps kept_inv (fun x t hx => (hlaunch x t hx).1) calls hs h⟩

/-- Settles O12: the fetched instruction is undefined exactly when the byte at the pc is one of the twelve. -/
theorem decodeFaultExactlyOnUndefinedOpcodes : Obligations.DecodeFaultExactlyOnUndefinedOpcodes := by
  unfold Obligations.DecodeFaultExactlyOnUndefinedOpcodes
  intro s t hf hh h
  rw [step_of_running hf hh] at h
  simp only [← fetch_undefined_iff]
  split
  · next hundef =>
    obtain ⟨hi, hp⟩ := hundef
    rw [exec_takes_decodeFault hi hp, opcodeOf_fetch] at h
    exact (Host.Outcome.next.inj h).symm
  · next hdef =>
    obtain ⟨u, hu, hfaulted⟩ := exec_keeps_faulted hdef
    obtain rfl := Host.Outcome.next.inj (hu.symm.trans h)
    exact hfaulted.trans hf

/-- Settles O11: a step marks a fault only as O12 says, and a request is accepted only without a mark. -/
theorem decodeFaultsArePrecise : Obligations.DecodeFaultsArePrecise := by
  unfold Obligations.DecodeFaultsArePrecise
  refine ⟨fun s t _ h => ?step, fun s hs => ?request⟩
  case step =>
    rcases step_cases s with ⟨f, -, e⟩ | ⟨hf, -, e⟩ | ⟨hf, hh, -⟩
    · cases e.symm.trans h
    · obtain rfl := Host.Outcome.next.inj (e.symm.trans h)
      exact preciseFault_of_not_faulted hf
    · have hfault := decodeFaultExactlyOnUndefinedOpcodes s t hf hh h
      split at hfault
      · exact hfault ▸ preciseFault_raiseDecodeFault s
      · exact preciseFault_of_not_faulted hfault
  case request =>
    rcases raiseInterrupt_cases s with e | ⟨hf, -, e⟩
    · rwa [e]
    · rw [e]; exact preciseFault_of_not_faulted hf

/-- Settles O8: exec always answers a next state, so only the fault mark stops a step. -/
theorem onlyAFaultedSessionStops : Obligations.OnlyAFaultedSessionStops := by
  unfold Obligations.OnlyAFaultedSessionStops
  refine ⟨exec_answers_next, fun s => ⟨fun ⟨t, ht⟩ => ?mark, step_answers_next⟩, fun s r hr => ?refused⟩
  case mark =>
    cases hf : s.faulted with
    | none => rfl
    | some f => cases (step_of_faulted hf).symm.trans ht
  case refused =>
    cases hf : s.faulted with
    | none =>
      obtain ⟨t, ht⟩ := step_answers_next hf
      cases ht.symm.trans hr
    | some f => cases (step_of_faulted hf).symm.trans hr

/-- Settles O51: the handler's stack has the interrupted pc on top. -/
theorem handlerReturnsWithRet : Obligations.HandlerReturnsWithRet := by
  unfold Obligations.HandlerReturnsWithRet
  intro s h hf hi hsp hlo hhi
  rw [raiseInterrupt_of_enabled hf hi] at hsp hlo hhi
  have htop : h.stackTop = s.pc := (stackTop_eq_of_read hsp hlo hhi).trans (stackTop_acceptInterrupt s)
  refine ⟨_, rfl, htop, ?_, rfl⟩
  calc h.sp + 2 = s.sp - 2 + 2 := by rw [hsp, acceptInterrupt_sp]
    _ = s.sp := BitVec.sub_add_cancel s.sp 2

/-- Settles O7: the mark decides the step and the request, and a reset has none. -/
theorem decodeFaultIsFinal : Obligations.DecodeFaultIsFinal := by
  unfold Obligations.DecodeFaultIsFinal
  refine ⟨fun s f hf => ⟨step_of_faulted hf, raiseInterrupt_of_fault hf⟩, fun x t h => ?_⟩
  obtain ⟨rfl, -⟩ := launch_eq_next h
  rfl

/-- Settles O50: an accepted request pushes the pc; a dropped one changes nothing. -/
theorem interruptRequest : Obligations.InterruptRequest := by
  unfold Obligations.InterruptRequest
  refine ⟨fun s hf hi => ?_, fun s hi => raiseInterrupt_of_disabled hi, fun s hf => ?_,
    fun s t hf ht => (raiseInterrupt_after_ei hf ht).2⟩
  · rw [raiseInterrupt_of_enabled hf hi]
    exact ⟨storesWord_acceptInterrupt s, rfl⟩
  · obtain ⟨f, hf⟩ := Option.ne_none_iff_exists'.mp hf
    exact raiseInterrupt_of_fault hf

end Sys2Proof.Machine
end

section
/-! Reset and hazards: what a step returns is never read back and is one of the stated values, and a quiescent state does not
change (70_reset_and_hazards.md). -/

namespace Sys2Proof.Machine

/-! ## What a step returns -/

/-- The cycle counts of the table (30_encoding.md R87; 70_reset_and_hazards.md R304). -/
def cycleCounts : List Nat := [4, 5, 7, 10, 11, 13, 16, 17, 18]

/-- The last step returned the fault it marked, or a count of the table. -/
def State.ReturnedStatedValue (t : State) : Prop :=
  (∃ f, t.lastReturn = .fault f ∧ t.faulted = some f) ∨ ∃ n ∈ cycleCounts, t.lastReturn = .cycles n

/-- A meaning that does not read what the last step returned, and returns a stated value itself. -/
structure ReturnsFresh (g : State → Host.Outcome State Fault Refusal) : Prop where
  unread : ∀ (s : State) (r : StepReturn), g (s.returns r) = g s
  stated : ∀ {s t : State}, g s = .next t → t.ReturnedStatedValue

section
variable {len : Word} {n k : Nat} {f : State → State}

/-- Completing overwrites what was returned before, so an effect that at most carries the old value along does not tell it. -/
theorem returnsFresh_complete (hn : n ∈ cycleCounts)
    (hf : ∀ s r, (f (s.returns r)).returns (.cycles n) = (f s).returns (.cycles n)) :
    ReturnsFresh (complete len n f) where
  unread s r := congrArg Host.Outcome.next (hf (s.advance len) r)
  stated {s t} h := .inr ⟨n, hn, by rw [(complete_eq_next len n f s t).mp h, returns_lastReturn]⟩

/-- A choice that does not read the last return value, between two such meanings. -/
theorem returnsFresh_ite {c : State → Bool} {g g' : State → Host.Outcome State Fault Refusal}
    (hc : ∀ s r, c (s.returns r) = c s) (hg : ReturnsFresh g) (hg' : ReturnsFresh g') :
    ReturnsFresh fun s => if c s then g s else g' s where
  unread s r := by simp only [hc, hg.unread, hg'.unread]
  stated {s t} h := by
    split at h
    · exact hg.stated h
    · exact hg'.stated h

/-- A conditional instruction completes with one of its two counts, as the flags decide. -/
theorem returnsFresh_completeIf {cond : Cond} (hn : n ∈ cycleCounts) (hk : k ∈ cycleCounts)
    (hf : ∀ s r, (f (s.returns r)).returns (.cycles n) = (f s).returns (.cycles n)) :
    ReturnsFresh fun s => completeIf (s.flags.holds cond) len n k f s :=
  returnsFresh_ite (fun _ _ => rfl) (returnsFresh_complete hn hf) (returnsFresh_complete hk fun _ _ => rfl)

end

/-- An undefined opcode returns its fault, the 4 cycles of a NOP, or what its alias returns (45_io_control.md R246). -/
theorem returnsFresh_undefinedOpcode {op : Byte} {g : State → Host.Outcome State Fault Refusal} (hg : ReturnsFresh g) :
    ReturnsFresh (undefinedOpcode op g) where
  unread s r := by
    cases hp : s.params.undefPolicy with
    | fault => rw [undefinedOpcode_fault hp, undefinedOpcode_fault (s := s.returns r) hp]; rfl
    | nop => rw [undefinedOpcode_nop hp, undefinedOpcode_nop (s := s.returns r) hp]; rfl
    | aliased => rw [undefinedOpcode_aliased hp, undefinedOpcode_aliased (s := s.returns r) hp, hg.unread]
  stated {s t} h := by
    cases hp : s.params.undefPolicy with
    | fault =>
      rw [undefinedOpcode_fault hp] at h
      obtain rfl := Host.Outcome.next.inj h
      exact .inl ⟨_, raiseDecodeFault_lastReturn s op s.pc, raiseDecodeFault_faulted s op s.pc⟩
    | nop =>
      rw [undefinedOpcode_nop hp] at h
      obtain rfl := Host.Outcome.next.inj h
      exact .inr ⟨4, by decide, returns_lastReturn _ _⟩
    | aliased => rw [undefinedOpcode_aliased hp] at h; exact hg.stated h

/-- Every instruction completes, completes under a condition, or follows the policy. `exec` is opened first, so that each
meaning is seen as one of the three. -/
theorem returnsFresh_exec (i : Instr) : ReturnsFresh fun s => exec i s := by
  cases i <;> dsimp only [exec]
  case jnz | jz | jnc | jc | jpo | jpe | jp | jm | cnz | cz | cnc | cc | cpo | cpe | cp | cm |
      rnz | rz | rnc | rc | rpo | rpe | rp | rm =>
    exact returnsFresh_completeIf (by decide) (by decide) fun _ _ => rfl
  case undef08 | undef10 | undef18 | undef20 | undef28 | undef30 | undef38 | undefCB | undefD9 | undefDD | undefED |
      undefFD =>
    exact returnsFresh_undefinedOpcode (returnsFresh_complete (by decide) fun _ _ => rfl)
  all_goals exact returnsFresh_complete (by decide) fun _ _ => rfl

/-- A step answers the fault again, idles with a count that is one of the table's too (30_encoding.md R88), or runs an
instruction. -/
theorem returnsFresh_step : ReturnsFresh step where
  unread s r := by
    rcases step_cases s with ⟨f, hf, e⟩ | ⟨hf, hh, e⟩ | ⟨hf, hh, e⟩ <;> rw [e]
    · exact step_of_faulted hf
    · exact step_of_halted hf hh
    · exact (step_of_running hf hh).trans ((returnsFresh_exec s.fetch).unread s r)
  stated {s t} h := by
    rcases step_cases s with ⟨f, -, e⟩ | ⟨-, -, e⟩ | ⟨-, -, e⟩ <;> rw [e] at h
    · cases h
    · obtain rfl := Host.Outcome.next.inj h
      exact .inr ⟨haltIdleCycles, by decide, returns_lastReturn s _⟩
    · exact (returnsFresh_exec s.fetch).stated h

/-- An interrupt request carries the last return value along unread. -/
theorem raiseInterrupt_returns (s : State) (r : StepReturn) :
    (s.returns r).raiseInterrupt = s.raiseInterrupt.returns r := by
  cases hf : s.faulted with
  | some f => rw [raiseInterrupt_of_fault hf]; exact raiseInterrupt_of_fault hf
  | none =>
    cases hi : s.inte with
    | false => rw [raiseInterrupt_of_disabled hi]; exact raiseInterrupt_of_disabled hi
    | true => rw [raiseInterrupt_of_enabled hf hi]; exact raiseInterrupt_of_enabled hf hi

/-! ## Quiescence -/

theorem quiescent_iff (s : State) :
    s.quiescent = true ↔ (∃ f, s.faulted = some f) ∨ (s.halted = true ∧ s.inte = false) := by
  simp [State.quiescent, Option.isSome_iff_exists]

/-- A return value alone does not make another state of the spec's machine (10_state.md R36). -/
theorem sameAs_returns (s : State) (r : StepReturn) : s.SameAs (s.returns r) := rfl

/-- A step of a quiescent state idles or answers the fault again. -/
theorem step_of_quiescent {s t : State} (hq : s.quiescent = true) (h : step s = .next t) : s.SameAs t := by
  rcases step_cases s with ⟨f, -, e⟩ | ⟨-, -, e⟩ | ⟨hf, hh, -⟩
  · cases e.symm.trans h
  · obtain rfl := Host.Outcome.next.inj (e.symm.trans h)
    exact sameAs_returns s _
  · simp [quiescent_iff, hf, hh] at hq

/-- A request in a quiescent state is dropped (60_exceptions.md R262, R266). -/
theorem raiseInterrupt_of_quiescent {s : State} (hq : s.quiescent = true) : s.raiseInterrupt = s := by
  obtain ⟨f, hf⟩ | ⟨-, hi⟩ := (quiescent_iff s).mp hq
  · exact raiseInterrupt_of_fault hf
  · exact raiseInterrupt_of_disabled hi

/-- A jump to its own address changes nothing but the value returned (43_branch.md R201). -/
theorem step_of_jump_to_self {s : State} (hf : s.faulted = none) (hh : s.halted = false) (hjmp : s.fetch = .jmp s.pc) :
    step s = .next (s.returns (.cycles 10)) := by
  rw [step_of_running hf hh, hjmp]
  rfl

/-- The machine after reset with a `JMP 0x0000` at 0x0000. -/
def selfJump : State := { State.reset with mem := [(0x0000, 0xC3)] }

/-! ## The obligations -/

/-- Settles O56: every step returns afresh, and a request keeps the value. -/
theorem returnValuesAreNeverReadBack : Obligations.ReturnValuesAreNeverReadBack := by
  unfold Obligations.ReturnValuesAreNeverReadBack
  exact ⟨fun s r => ⟨returnsFresh_step.unread s r, raiseInterrupt_returns s r⟩, fun _ _ => returnsFresh_step.stated⟩

/-- Settles O55: a quiescent state idles or answers its fault, and drops every request; `selfJump` is the state that is left
unchanged too. -/
theorem quiescentStatesDoNotChange : Obligations.QuiescentStatesDoNotChange := by
  unfold Obligations.QuiescentStatesDoNotChange
  refine ⟨fun s hq => ⟨fun t => step_of_quiescent hq, raiseInterrupt_of_quiescent hq⟩,
    selfJump, _, rfl, step_of_jump_to_self rfl rfl (by decide), sameAs_returns _ _, raiseInterrupt_of_disabled rfl⟩

end Sys2Proof.Machine
end
